-- ==== Sys2Proof/Word.lean ====
section
/-! DEFINITION. The numbers, words and addresses of the TJ-1640. -/

namespace Sys2Proof

/-- One byte of a management frame. -/
abbrev Byte := BitVec 8

/-- A 32-bit byte address (00_scope.md, Notation: Addresses). -/
abbrev Addr := BitVec 32

/-- A register value of the management link, most significant byte first (R146). -/
abbrev Word32 := BitVec 32

/-- The data field of a record, up to 64 bytes (R114, R117); "all-zero data" is `0#512`. -/
abbrev Data := BitVec 512

/-- The byte strobes of a write, one per byte of the size (R114). -/
abbrev Strobes := BitVec 64

/-- A master number, 0 to 15 (R114). -/
abbrev Master := Fin 16

/-- A transaction tag, 0 to 7 (R114). -/
abbrev Tag := Fin 8

/-- A window index, 0 to 3 (R1). -/
abbrev WindowIx := Fin 4

/-- The index of a contention entry, 0 to 31 (R70). -/
abbrev EntryIx := Fin 32

/-- A size code, 0 to 7: 0 to 6 mean 1 to 64 bytes, 7 is invalid (R114). -/
abbrev SizeCode := Fin 8

/-- Every master, in number order. -/
def masters : List Master := List.finRange 16

/-- Every window, in index order. -/
def windowIxs : List WindowIx := List.finRange 4

/-- Every contention entry, in index order. -/
def entryIxs : List EntryIx := List.finRange 32

end Sys2Proof
end

