-- ==== Sys2Proof/Config.lean ====
section
/-! DEFINITION. What the part fixes once (capacities and periods) and the orders the spec leaves free. -/

namespace Sys2Proof

/-- The flight list holds at most 24 entries (R55). -/
def Config.flightMax : Nat := 24

/-- The reply queue holds at most four replies (R125). -/
def Config.replyMax : Nat := 4

/-- The notice queue holds at most 16 notices (R136). -/
def Config.noticeMax : Nat := 16

/-- A period count saturates at 15 (R70, R74). -/
def Config.countMax : Nat := 15

/-- The length of a sample period in REFCLK periods, by sample code (R3, R154). -/
def Config.samplePeriod (code : BitVec 2) : Nat := 256 * 4 ^ code.toNat

/-- The length of a tenure unit in REFCLK periods (R96, R154). -/
def Config.unitPeriod : Nat := 64

/-- The ID register: vendor 4Bh, part 1640h, revision 01h (09_management_link.md, Formats). -/
def Config.idValue : Word32 := 0x4B164001#32

/-- FREE VALUE. The rank of each entry among the expiries of one tenure unit: entries that expire at the same unit
are taken in rising rank. R96: "in the order the expiries are taken, which may be either order". The first argument
is the number of orders drawn so far. Log entry 6. -/
opaque Config.expiryRank : Nat → EntryIx → Nat

/-- FREE VALUE. Whether a tenure unit is taken before a sample-period expiry that falls on the same REFCLK edge
(R154: "may be taken at the same moment"). The argument is the number of orders drawn so far. Log entry 7. -/
opaque Config.unitFirst : Nat → Bool

end Sys2Proof
end

