-- ==== Sys2Proof/Syntax.lean ====
section
/-! DEFINITION. The commands of the part: one constructor per row of spec/opcode_table.json, with its operands. -/

namespace Sys2Proof

/-- The kind of a transaction (R114). -/
inductive Kind where
  | read
  | write
  deriving DecidableEq, Repr

/-- The status of a far response (R117). -/
inductive FarStatus where
  | ok
  | error
  deriving DecidableEq, Repr

/-- How much of a management frame one command clocks (R142; log entry 11). A complete frame starts, clocks all its
bytes and ends. A frame may be left open and carried on by a later command, so that other events can be taken between
its bytes (R138, R139, R145, R154). -/
structure Frame where
  /-- MCS_N falls at the start of the command (it rises first, if it was low). -/
  starts : Bool
  /-- How many bytes complete in this command. -/
  bytes : Nat
  /-- MCS_N rises at the end of the command. -/
  ends : Bool
  deriving DecidableEq, Repr

/-- The commands: arrivals, expiries, pin events and management frames. `farFree` is the level of the far request
channel's ready at the edge at which the request is offered (R116), `replyReady` that of the near reply channel (R117).
Log entry 9. -/
inductive Instr where
  /-- LINKED_READ (R21 to R28): a request with attribute LINKED; with kind WRITE it is refused BAD_ATTRIBUTE, and its
  write data are discarded (R119), so the row carries none. -/
  | linkedRead (m : Master) (t : Tag) (k : Kind) (a : Addr) (z : SizeCode) (farFree : Bool)
  /-- CONDITIONAL_WRITE (R40 to R50): a request with attribute CONDITIONAL; with kind READ it is refused. -/
  | conditionalWrite (m : Master) (t : Tag) (k : Kind) (a : Addr) (z : SizeCode) (d : Data) (b : Strobes) (farFree : Bool)
  /-- PLAIN_READ (R122). -/
  | plainRead (m : Master) (t : Tag) (a : Addr) (z : SizeCode) (farFree : Bool)
  /-- PLAIN_WRITE (R122, R33). -/
  | plainWrite (m : Master) (t : Tag) (a : Addr) (z : SizeCode) (d : Data) (b : Strobes) (farFree : Bool)
  /-- WITHDRAW (R129). -/
  | withdraw (m : Master) (t : Tag)
  /-- FAR_RESPONSE (R58). -/
  | farResponse (m : Master) (t : Tag) (st : FarStatus) (d : Data) (replyReady : Bool)
  /-- REPLY_QUEUE_SEND (R126): the near reply channel is ready. -/
  | replyQueueSend
  /-- RELEASED_READ_FORWARDING (R124): the far request channel is free. -/
  | releasedReadForwarding
  /-- SAMPLE_PERIOD_EXPIRY (R77). -/
  | samplePeriodExpiry
  /-- TENURE_UNIT (R96). -/
  | tenureUnit
  /-- TENURE_EXPIRY (R97) of one entry. -/
  | tenureExpiry (e : EntryIx)
  /-- HARD_RESET (R155): RESET_N is asserted. -/
  | hardReset
  /-- RESET_RELEASE (R156): RESET_N is seen high at a REFCLK edge. -/
  | resetRelease
  /-- READ_REGISTER (R146): the register address. -/
  | readRegister (a : Byte) (f : Frame)
  /-- WRITE_REGISTER (R146) of BASE, SHAPE, LIMITS, ID or an undefined address. -/
  | writeRegister (a : Byte) (v : Word32) (f : Frame)
  /-- WRITE_CONTROL (R11). -/
  | writeControl (v : Word32) (f : Frame)
  /-- ENABLE_SET (R9): bit 0 of the value is 1, `upper` is its bits 31 to 1 (R146). -/
  | enableSet (w : WindowIx) (upper : BitVec 31) (f : Frame)
  /-- ENABLE_CLEAR (R10): bit 0 of the value is 0. -/
  | enableClear (w : WindowIx) (upper : BitVec 31) (f : Frame)
  /-- READ_ENTRY (R148): the index byte. -/
  | readEntry (i : Byte) (f : Frame)
  /-- READ_CONTEXT (R148): the master byte. -/
  | readContext (i : Byte) (f : Frame)
  /-- TAKE_NOTICE (R138). -/
  | takeNotice (f : Frame)
  /-- READ_STATUS (R149). -/
  | readStatus (f : Frame)
  /-- CLEAR_ALL (R150). -/
  | clearAll (f : Frame)
  /-- RELEASE_HOLDER (R107): the index byte. -/
  | releaseHolder (i : Byte) (f : Frame)
  /-- UNKNOWN_COMMAND (R144): a command byte that is no listed code. -/
  | unknownCommand (c : Byte) (f : Frame)
  /-- SHORT_FRAME (R145): MCS_N rises after 0 to 7 bits of the command byte. -/
  | shortFrame (bits : Fin 8)
  /-- REFCLK_STOPS (R154). -/
  | refclkStops
  /-- REFCLK_RUNS_AGAIN (R154). -/
  | refclkRunsAgain
  deriving DecidableEq, Repr

end Sys2Proof
end

