-- ==== Sys2Proof/Decode.lean ====
section
/-! DEFINITION. What the words of the opcode table and the bytes of a management frame spell. -/

namespace Sys2Proof

/-- The command that a word of the opcode table spells: no row of spec/opcode_table.json gives bits, so no word spells
one (log entry 17). -/
def decodeTableWord (_nbits _w : Nat) : Option Instr := none

/-- The commands of the management link (R142). -/
inductive LinkCommand where
  | readRegister
  | writeRegister
  | readEntry
  | readContext
  | takeNotice
  | readStatus
  | clearAll
  | releaseHolder
  deriving DecidableEq, Repr

/-- The command codes (09_management_link.md, Formats). -/
def commandCode (c : LinkCommand) : Byte :=
  match c with
  | .readRegister => 0x21#8
  | .writeRegister => 0x22#8
  | .readEntry => 0x31#8
  | .readContext => 0x32#8
  | .takeNotice => 0x41#8
  | .readStatus => 0x42#8
  | .clearAll => 0x5C#8
  | .releaseHolder => 0x5D#8

/-- The command a command byte names; a code not listed is unknown (R144). -/
def decodeCommand (b : Byte) : Option LinkCommand :=
  if b = 0x21#8 then some .readRegister
  else if b = 0x22#8 then some .writeRegister
  else if b = 0x31#8 then some .readEntry
  else if b = 0x32#8 then some .readContext
  else if b = 0x41#8 then some .takeNotice
  else if b = 0x42#8 then some .readStatus
  else if b = 0x5C#8 then some .clearAll
  else if b = 0x5D#8 then some .releaseHolder
  else none

/-- The registers of the register map (09_management_link.md, Formats). -/
inductive Reg where
  | id
  | control
  | base (w : WindowIx)
  | shape (w : WindowIx)
  | limits (w : WindowIx)
  | enable (w : WindowIx)
  deriving DecidableEq, Repr

/-- The window whose registers hold an address of 10h to 1Fh. -/
def windowOfAddress (a : Byte) : WindowIx := (a.extractLsb' 2 2).toFin

/-- The register at an address: 00h, 01h and 10h to 1Fh; every other address is undefined. -/
def decodeRegister (a : Byte) : Option Reg :=
  if a = 0x00#8 then some .id
  else if a = 0x01#8 then some .control
  else if a.extractLsb' 4 4 = 0x1#4 then
    if a.extractLsb' 0 2 = 0#2 then some (.base (windowOfAddress a))
    else if a.extractLsb' 0 2 = 1#2 then some (.shape (windowOfAddress a))
    else if a.extractLsb' 0 2 = 2#2 then some (.limits (windowOfAddress a))
    else some (.enable (windowOfAddress a))
  else none

/-- The address of a register. -/
def registerAddress (r : Reg) : Byte :=
  match r with
  | .id => 0x00#8
  | .control => 0x01#8
  | .base w => 0x10#8 + BitVec.ofNat 8 (4 * w.val)
  | .shape w => 0x11#8 + BitVec.ofNat 8 (4 * w.val)
  | .limits w => 0x12#8 + BitVec.ofNat 8 (4 * w.val)
  | .enable w => 0x13#8 + BitVec.ofNat 8 (4 * w.val)

end Sys2Proof
end

