-- ==== Sys2Proof/Machine/State.lean ====
section
/-! DEFINITION. The state of the TJ-1640, its reset value, and the reasons a step could stop. -/

namespace Sys2Proof.Machine

/-- A granule: its base address and the window it was classified in. Two granules are the same when both agree (R72). -/
structure Granule where
  base : Addr
  window : WindowIx
  deriving DecidableEq, Repr

/-- A window record (R1). -/
structure Window where
  enable : Bool
  base : Addr
  /-- The window is 4 KiB × 2^sizeCode bytes; legal 0 to 18. -/
  sizeCode : BitVec 5
  /-- A granule is 16 × 2^granuleCode bytes. -/
  granuleCode : BitVec 2
  queuedAllowed : Bool
  autoGate : Bool
  /-- Decay code d: divisor 2^(d+2). -/
  decay : BitVec 2
  /-- Threshold TH, in units of 1024. -/
  th : BitVec 6
  /-- Hysteresis HY, in units of 512. -/
  hy : BitVec 5
  /-- Tenure length in units of 64 REFCLK periods; legal 1 to 255. -/
  tenure : BitVec 8
  deriving DecidableEq, Repr

/-- Why a linked read is parked (R17); a queued read names its entry. -/
inductive ParkReason where
  | hazard
  | queue (e : EntryIx)
  deriving DecidableEq, Repr

/-- A parked read of a master (R17). -/
structure Parked where
  tag : Tag
  address : Addr
  size : SizeCode
  granule : Granule
  reason : ParkReason
  deriving DecidableEq, Repr

/-- A master context (R17): three optional parts. -/
structure Context where
  reservation : Option Granule
  parked : Option Parked
  holdership : Option EntryIx
  deriving DecidableEq, Repr

/-- The arming mode of a released read (R18); an ARM read may carry a holder-entry. -/
inductive ArmMode where
  | arm (holderEntry : Option EntryIx)
  | disarmed
  | plain
  deriving DecidableEq, Repr

/-- A released read waiting at the far-port arbiter (R18, R123). -/
structure Released where
  master : Master
  tag : Tag
  address : Addr
  size : SizeCode
  granule : Granule
  mode : ArmMode
  deriving DecidableEq, Repr

/-- The kind of a flight-list entry, with the fields only LREAD entries have (R55). -/
inductive FlightKind where
  | write
  | cwrite
  | lread (armed : Bool) (holderEntry : Option EntryIx)
  deriving DecidableEq, Repr

/-- A granule range: the bases of its first and last granule and the granule size of the window at acceptance (R6, R55). -/
structure GranuleRange where
  first : Addr
  last : Addr
  size : Nat
  deriving DecidableEq, Repr

/-- A flight-list entry (R55). -/
structure Flight where
  kind : FlightKind
  master : Master
  tag : Tag
  address : Addr
  range : GranuleRange
  deriving DecidableEq, Repr

/-- The state of a contention entry (R70, R71). -/
inductive Mode where
  | free
  | watch
  | queued
  | drain
  deriving DecidableEq, Repr

/-- A contention entry (R70). -/
structure Entry where
  state : Mode
  granule : Granule
  /-- Fast value F. -/
  fast : Nat
  /-- Slow value S. -/
  slow : Nat
  warm : Bool
  hot : Bool
  /-- Period count, saturating at 15. -/
  count : Nat
  holder : Option Master
  /-- Tenure remaining. -/
  tenure : Nat
  /-- Grant queue, head first. -/
  queue : List Master
  deriving DecidableEq, Repr

/-- The statuses of a near reply (00_scope.md, Reply statuses). -/
inductive ReplyStatus where
  | okay
  | exokay
  | exfail
  | nomon
  | seqerr
  | buserr
  | cancelled
  deriving DecidableEq, Repr

/-- A reply of the reply queue; its data are all zero (R125). -/
structure QueuedReply where
  master : Master
  tag : Tag
  status : ReplyStatus
  deriving DecidableEq, Repr

/-- A record of the near reply channel (R117). -/
structure NearReply where
  master : Master
  tag : Tag
  status : ReplyStatus
  data : Data
  deriving DecidableEq, Repr

/-- A record of the far response channel (R117). -/
structure FarResponse where
  master : Master
  tag : Tag
  status : FarStatus
  data : Data
  deriving DecidableEq, Repr

/-- A record of the far request channel (R116); its attribute is always PLAIN. A read carries no data and no strobes. -/
structure FarRequest where
  master : Master
  tag : Tag
  kind : Kind
  address : Addr
  size : SizeCode
  data : Data
  strobes : Strobes
  deriving DecidableEq, Repr

/-- The check that refused a request (R118). -/
inductive Reason where
  | misaligned
  | badSize
  | badAttribute
  | splitGranule
  | parkedBusy
  | dupTag
  deriving DecidableEq, Repr

/-- A notice: the kind decides which fields are present (R133). -/
inductive Notice where
  | granuleHot (e : EntryIx) (g : Granule)
  | granuleCool (e : EntryIx) (g : Granule)
  | tenureExpired (m : Master) (e : EntryIx) (base : Addr)
  | protocol (m : Master) (t : Tag) (address : Addr) (reason : Reason)
  | untracked (g : Granule)
  | memoryError (m : Master) (t : Tag) (address : Addr)
  deriving DecidableEq, Repr

/-- The frame state of the management link (R144). -/
inductive FramePhase where
  | idle
  | command
  | argument
  | data
  | ret
  | ignore
  deriving DecidableEq, Repr

/-- The management link: the frame in progress, REFUSED, MCS_N, and what MSO carried. -/
structure Link where
  /-- Frame state (R144). -/
  phase : FramePhase
  /-- The command of the frame, once its byte is complete. -/
  command : Option LinkCommand
  /-- How many bytes of the frame are complete. -/
  done : Nat
  /-- The argument byte received. -/
  argument : Byte
  /-- The data bytes received, first byte first. -/
  dataIn : List Byte
  /-- The bytes of the snapshot still to be returned (R145). -/
  shiftOut : List Byte
  /-- The status byte sampled at the fall of MCS_N (R143). -/
  status : Byte
  /-- Whether a TAKE NOTICE snapshot was of a notice (R138). -/
  headTaken : Bool
  /-- REFUSED (R147). -/
  refused : Bool
  /-- MCS_N is low. -/
  mcsLow : Bool
  /-- The model's record of the bytes MSO carried in the present or last frame. -/
  mso : List Byte
  /-- The model's record of the bits MSO carried for a command byte that was cut short (R143), first bit first. -/
  msoBits : List Bool
  deriving DecidableEq, Repr

/-- The model's record of what moved on the bus channels in the last step. -/
structure Out where
  /-- The command's record was taken, or its event came about. -/
  taken : Bool
  /-- The record taken on the far request channel. -/
  farRequest : Option FarRequest
  /-- The record sent on the near reply channel. -/
  nearReply : Option NearReply
  deriving DecidableEq, Repr

/-- The state of the part, and the queue of the commands that wait. INVENTORY.md names the rule of each field. -/
structure State where
  windows : Vector Window 4
  mon : Bool
  sampleCode : BitVec 2
  /-- Notice kind mask: GRANULE_HOT, GRANULE_COOL, TENURE_EXPIRED, PROTOCOL, UNTRACKED, MEMORY_ERROR from bit 0 up. -/
  mask : BitVec 6
  contexts : Vector Context 16
  flight : List Flight
  hazard : List Master
  /-- NOMON mark of master m and tag t at index 8m + t. -/
  nomon : Vector Bool 128
  released : List Released
  contention : Vector Entry 32
  replies : List QueuedReply
  notices : List Notice
  overflow : Bool
  discardMark : Bool
  link : Link
  sampleTimer : Nat
  sampleLength : Nat
  /-- A sample-period expiry has been taken and no REFCLK period has passed since: a CONTROL write now is taken at the
  moment of the expiry (R154; log entry 20). -/
  atExpiry : Bool
  unitCounter : Nat
  refclkRunning : Bool
  /-- The level of RESET_N is low (R155, R157). -/
  resetLow : Bool
  /-- The part is held in reset: RESET_N is low, or its rise has not been seen at a REFCLK edge yet (R155, R156). -/
  inReset : Bool
  out : Out
  /-- How many free orders have been drawn: the index of the free values of Config (log entry 8). -/
  draws : Nat
  pending : List Instr
  deriving DecidableEq, Repr

/-- The reasons a step stops with a fault: none. The spec describes no event at which the part stops (INVENTORY.md,
Faults), so this type has no constructor. -/
inductive Fault
  deriving DecidableEq, Repr

/-- The reasons a step is refused. -/
inductive Refusal where
  /-- Raised by an arm of exec whose command has no meaning yet; no arm raises it now. Safe: the run stops. -/
  | notModelled (mnemonic : String)
  deriving DecidableEq, Repr

/-- A window record after hard reset (R1). -/
def Window.reset : Window :=
  { enable := false, base := 0#32, sizeCode := 0#5, granuleCode := 0#2, queuedAllowed := false, autoGate := true,
    decay := 1#2, th := 16#6, hy := 4#5, tenure := 50#8 }

/-- A context with all three parts absent (R17, R19). -/
def Context.empty : Context := { reservation := none, parked := none, holdership := none }

/-- The FREE values of a contention entry (R70). -/
def Entry.free : Entry :=
  { state := .free, granule := { base := 0#32, window := 0 }, fast := 0, slow := 0, warm := false, hot := false,
    count := 0, holder := none, tenure := 0, queue := [] }

/-- The management link in IDLE with REFUSED clear (R152). What the link holds outside a frame is a DESIGN CHOICE
(log entry 16), MCS_N high too (log entry 2). -/
def Link.reset : Link :=
  { phase := .idle, command := none, done := 0, argument := 0#8, dataIn := [], shiftOut := [], status := 0#8,
    headTaken := false, refused := false, mcsLow := false, mso := [], msoBits := [] }

/-- Nothing moved on a channel. -/
def Out.none : Out := { taken := false, farRequest := Option.none, nearReply := Option.none }

/-- The part right after the release of RESET_N (R155, R156): every field at its hard reset value, REFCLK running and
MCS_N high (DESIGN CHOICE, log entry 2). -/
def State.reset : State where
  windows := Vector.replicate 4 Window.reset
  mon := false
  sampleCode := 1#2
  mask := 0x3F#6
  contexts := Vector.replicate 16 Context.empty
  flight := []
  hazard := []
  nomon := Vector.replicate 128 false
  released := []
  contention := Vector.replicate 32 Entry.free
  replies := []
  notices := []
  overflow := false
  discardMark := false
  link := Link.reset
  sampleTimer := 0
  sampleLength := Config.samplePeriod 1#2
  atExpiry := false
  unitCounter := 0
  refclkRunning := true
  resetLow := false
  inReset := false
  out := Out.none
  draws := 0
  pending := []

end Sys2Proof.Machine
end

