-- ==== Sys2Proof/Machine/Operands.lean ====
section
/-! DEFINITION. Operand forms: request records, sizes, classification of addresses, granules and granule ranges. -/

namespace Sys2Proof.Machine

/-- The attribute field of a request (R114). -/
inductive Attr where
  | plain
  | linked
  | conditional
  deriving DecidableEq, Repr

/-- A request record of the near request channel (R114). -/
structure Request where
  master : Master
  tag : Tag
  kind : Kind
  attr : Attr
  address : Addr
  size : SizeCode
  data : Data
  strobes : Strobes
  deriving DecidableEq, Repr

/-- The size of a transaction in bytes (R114); size code 7 is taken as 128 bytes by the MISALIGNED check (R118). -/
def sizeBytes (z : SizeCode) : Nat := 2 ^ z.val

/-- The address is a multiple of the size (00_scope.md, Addresses; R118). -/
def aligned (a : Addr) (z : SizeCode) : Bool := a.toNat % sizeBytes z = 0

/-- The window record of an index. -/
def State.window (s : State) (w : WindowIx) : Window := s.windows[w]

/-- A window is ACTIVE when its enable field is set and MON is on (R2). -/
def State.active (s : State) (w : WindowIx) : Bool := s.mon && (s.window w).enable

/-- The window size in bytes (R1). -/
def Window.bytes (r : Window) : Nat := 4096 * 2 ^ r.sizeCode.toNat

/-- The granule size in bytes (R1). -/
def Window.granuleBytes (r : Window) : Nat := 16 * 2 ^ r.granuleCode.toNat

/-- The address lies in the range of the window (R1). -/
def Window.covers (r : Window) (a : Addr) : Bool :=
  decide (r.base.toNat ≤ a.toNat) && decide (a.toNat < r.base.toNat + r.bytes)

/-- The two ranges share at least one byte (R9). -/
def Window.overlaps (r q : Window) : Bool :=
  decide (r.base.toNat < q.base.toNat + q.bytes) && decide (q.base.toNat < r.base.toNat + r.bytes)

/-- The granule size of a window, as the table stands. -/
def State.granuleBytes (s : State) (w : WindowIx) : Nat := (s.window w).granuleBytes

/-- Classification: the ACTIVE window an address lies in, or none, which is "outside" (R4). At most one qualifies (R9). -/
def State.classify (s : State) (a : Addr) : Option WindowIx :=
  windowIxs.find? fun w => s.active w && (s.window w).covers a

/-- An address rounded down to a multiple of a granule size (R4). -/
def granuleBase (size : Nat) (a : Addr) : Addr := BitVec.ofNat 32 (a.toNat / size * size)

/-- The granule of an address in a window (R4). -/
def State.granuleOf (s : State) (w : WindowIx) (a : Addr) : Granule :=
  { base := granuleBase (s.granuleBytes w) a, window := w }

/-- The granule range of a write: from the granule of its first byte to the granule of its last, at its full size (R6). -/
def State.writeRange (s : State) (w : WindowIx) (a : Addr) (z : SizeCode) : GranuleRange :=
  { first := granuleBase (s.granuleBytes w) a
    last := granuleBase (s.granuleBytes w) (a + BitVec.ofNat 32 (sizeBytes z - 1))
    size := s.granuleBytes w }

/-- The range that is one granule alone (R54, R56). -/
def State.rangeOf (s : State) (g : Granule) : GranuleRange :=
  { first := g.base, last := g.base, size := s.granuleBytes g.window }

/-- The byte-address test of R6: some byte of the block of `size` bytes at `base` lies between the first byte of the
range's first granule and the last byte of its last granule. -/
def GranuleRange.includes (r : GranuleRange) (base : Addr) (size : Nat) : Bool :=
  decide (base.toNat < r.last.toNat + r.size) && decide (r.first.toNat < base.toNat + size)

/-- The range includes a granule, at the granule size of the granule's window (R6, R33). -/
def State.inRange (s : State) (r : GranuleRange) (g : Granule) : Bool :=
  r.includes g.base (s.granuleBytes g.window)

/-- The entry is a write in flight (R55). -/
def Flight.isWrite (f : Flight) : Bool :=
  match f.kind with
  | .write => true
  | .cwrite => true
  | .lread _ _ => false

/-- The armed mark of a flight-list entry; only LREAD entries have one (R55). -/
def Flight.armed (f : Flight) : Bool :=
  match f.kind with
  | .write => false
  | .cwrite => false
  | .lread a _ => a

/-- The holder-entry of a flight-list entry; only LREAD entries have one (R55). -/
def Flight.holderEntry (f : Flight) : Option EntryIx :=
  match f.kind with
  | .write => none
  | .cwrite => none
  | .lread _ h => h

/-- The released read will arm at its forwarding (R18). -/
def Released.arms (r : Released) : Bool :=
  match r.mode with
  | .arm _ => true
  | .disarmed => false
  | .plain => false

/-- The holder-entry of a released read; only a read of mode ARM carries one (R18). -/
def Released.holderEntry (r : Released) : Option EntryIx :=
  match r.mode with
  | .arm h => h
  | .disarmed => none
  | .plain => none

/-- A write in flight covers the granule (R24, R55). -/
def State.covered (s : State) (g : Granule) : Bool :=
  s.flight.any fun f => f.isWrite && s.inRange f.range g

/-- The far request of a transaction: every field unchanged, the attribute PLAIN (R116). -/
def Request.toFar (r : Request) : FarRequest :=
  { master := r.master, tag := r.tag, kind := r.kind, address := r.address, size := r.size
    data := r.data, strobes := r.strobes }

/-- The far request of a released read (R116). -/
def Released.toFar (r : Released) : FarRequest :=
  { master := r.master, tag := r.tag, kind := .read, address := r.address, size := r.size
    data := 0#512, strobes := 0#64 }

/-- A parked read of master m handed over as a released read (R18). -/
def Parked.release (p : Parked) (m : Master) (mode : ArmMode) : Released :=
  { master := m, tag := p.tag, address := p.address, size := p.size, granule := p.granule, mode := mode }

end Sys2Proof.Machine
end

