-- ==== Sys2Proof/Machine/Flags.lean ====
section
/-! DEFINITION. Filters, comparators and flags: F, S, WARM, HOT, ALERT and the status byte. -/

namespace Sys2Proof.Machine

/-- A quotient rounded up to the next whole number (R79). -/
def ceilDiv (a b : Nat) : Nat := (a + b - 1) / b

/-- The target of a period count (R78). -/
def target (count : Nat) : Nat := count * 4096

/-- The fast filter's step (R79): d is the decay code of the window. -/
def nextFast (d : BitVec 2) (f t : Nat) : Nat :=
  if f ≤ t then f + ceilDiv (t - f) 2 else f - ceilDiv (f - t) (2 ^ (d.toNat + 2))

/-- The slow filter's step when it is not held (R80). -/
def nextSlow (v t : Nat) : Nat :=
  if v ≤ t then v + ceilDiv (t - v) 256 else v - ceilDiv (v - t) 256

/-- The WARM comparator (R82). -/
def warmOf (th : BitVec 6) (f v : Nat) : Bool := decide (v + th.toNat * 1024 < f)

/-- The HOT comparator, with hysteresis (R83). The clearing bound F < S + TH × 1024 − HY × 512 is compared over whole
numbers, as F + HY × 512 < S + TH × 1024. -/
def hotOf (th : BitVec 6) (hy : BitVec 5) (hot : Bool) (f v : Nat) : Bool :=
  if hot then !decide (f + hy.toNat * 512 < v + th.toNat * 1024)
  else decide (v + th.toNat * 1024 + hy.toNat * 512 < f)

/-- ALERT_N is asserted: the notice queue holds a notice or OVERFLOW is set (R141, Law 11). -/
def State.alert (s : State) : Bool := !s.notices.isEmpty || s.overflow

/-- Bits 3 to 0 of the status byte and of the status record: ALERT, REFUSED, OVERFLOW, MON (R143). -/
def State.flagBits (s : State) : BitVec 4 :=
  BitVec.ofBool s.alert ++ BitVec.ofBool s.link.refused ++ BitVec.ofBool s.overflow ++ BitVec.ofBool s.mon

/-- The status byte (R143). -/
def State.statusByte (s : State) : Byte := 0x8#4 ++ s.flagBits

/-- MSO is driven while MCS_N is low and RESET_N is high, and high-impedance otherwise (R157). Between the rise of RESET_N
and the REFCLK edge that sees it MSO is driven although the link takes no frame yet (R152, R156; log entry 13). -/
def State.msoDriven (s : State) : Bool := s.link.mcsLow && !s.resetLow

/-- The part takes channel records and timebase events: REFCLK runs and RESET_N is not asserted (R131, R154). -/
def State.live (s : State) : Bool := s.refclkRunning && !s.inReset

end Sys2Proof.Machine
end

