-- ==== Sys2Proof/Machine/Ops.lean ====
section
/-! DEFINITION. The shared operations: contexts and entries, notices, clearing of reservations, arming, holder release,
grants, the DRAIN exit, contention events, dissolution, and the handshake record. -/

namespace Sys2Proof.Machine

/-! Access to contexts, entries and marks. -/

/-- The context of a master. -/
def State.ctx (s : State) (m : Master) : Context := s.contexts[m]

/-- A contention entry. -/
def State.entry (s : State) (e : EntryIx) : Entry := s.contention[e]

/-- Every context replaced by a function of it. -/
def State.mapCtx (s : State) (f : Master → Context → Context) : State :=
  { s with contexts := Vector.ofFn fun m => f m (s.ctx m) }

/-- One context replaced. -/
def State.updCtx (s : State) (m : Master) (f : Context → Context) : State :=
  s.mapCtx fun i c => if i = m then f c else c

/-- Every entry replaced by a function of it. -/
def State.mapEntries (s : State) (f : EntryIx → Entry → Entry) : State :=
  { s with contention := Vector.ofFn fun e => f e (s.entry e) }

/-- One entry replaced. -/
def State.updEntry (s : State) (e : EntryIx) (f : Entry → Entry) : State :=
  s.mapEntries fun i x => if i = e then f x else x

/-- The place of the NOMON mark of a master and tag. -/
def nomonIx (m : Master) (t : Tag) : Fin 128 := ⟨8 * m.val + t.val, by omega⟩

/-- The NOMON mark of a master and tag (R58). -/
def State.nomonMark (s : State) (m : Master) (t : Tag) : Bool := s.nomon[nomonIx m t]

/-- One NOMON mark set or cleared (R58). -/
def State.setNomon (s : State) (m : Master) (t : Tag) (b : Bool) : State :=
  { s with nomon := s.nomon.set (nomonIx m t).val b (nomonIx m t).isLt }

/-- The non-FREE entry that tracks a granule (R24, R74); Law 5 keeps it unique. -/
def State.entryFor (s : State) (g : Granule) : Option EntryIx :=
  entryIxs.find? fun e => decide ((s.entry e).state ≠ .free) && decide ((s.entry e).granule = g)

/-- The entry for the granule when the master is its holder (R18, R63). -/
def State.heldEntry (s : State) (m : Master) (g : Granule) : Option EntryIx :=
  (s.entryFor g).filter fun e => (s.entry e).holder = some m

/-- The entry is in queued operation (R71). -/
def Entry.serving (x : Entry) : Bool := decide (x.state = .queued) || decide (x.state = .drain)

/-! The handshake record and the reply queue. -/

/-- Nothing has moved yet in this step (log entry 10). -/
def State.quiet (s : State) : State := { s with out := Out.none }

/-- The command's record was taken, or its event came about. -/
def State.took (s : State) : State := { s with out := { s.out with taken := true } }

/-- A record taken on the far request channel (R116). -/
def State.forwarded (s : State) (r : FarRequest) : State := { s with out := { s.out with farRequest := some r } }

/-- A record sent on the near reply channel (R117). -/
def State.replied (s : State) (r : NearReply) : State := { s with out := { s.out with nearReply := some r } }

/-- The reply queue has room (R125). -/
def State.replyRoom (s : State) : Bool := decide (s.replies.length < Config.replyMax)

/-- The flight list has a free entry (R55, R61). -/
def State.flightRoom (s : State) : Bool := decide (s.flight.length < Config.flightMax)

/-- A reply joins the tail of the reply queue (R125). -/
def State.enqueue (s : State) (m : Master) (t : Tag) (st : ReplyStatus) : State :=
  { s with replies := s.replies ++ [{ master := m, tag := t, status := st }] }

/-! Notices. -/

/-- The bit of the notice kind mask that enables a notice's kind (R135; 09, Formats). -/
def Notice.kindBit (n : Notice) : Nat :=
  match n with
  | .granuleHot _ _ => 0
  | .granuleCool _ _ => 1
  | .tenureExpired _ _ _ => 2
  | .protocol _ _ _ _ => 3
  | .untracked _ => 4
  | .memoryError _ _ _ => 5

/-- The notice is of kind UNTRACKED. -/
def Notice.isUntracked (n : Notice) : Bool :=
  match n with
  | .untracked _ => true
  | _ => false

/-- A notice is handed to the notice queue: dropped when masked (R135), coalesced (R137), discarded with OVERFLOW and
the discard mark when the queue is full (R136, R139), or appended (R136).

DESIGN CHOICE (log entry 23): R139 sets the mark at a discard after a READ STATUS snapshot and is silent on one before the
first snapshot since hard reset; here every discard sets it. -/
def State.notify (s : State) (n : Notice) : State :=
  if !s.mask.getLsbD n.kindBit then s
  else if n.isUntracked && s.notices.any Notice.isUntracked then s
  else if s.notices.length < Config.noticeMax then { s with notices := s.notices ++ [n] }
  else { s with overflow := true, discardMark := true }

/-! Reservations. -/

/-- An LREAD entry of a chosen master loses its armed mark (R29). -/
def Flight.unmark (p : Master → Bool) (f : Flight) : Flight :=
  match f.kind with
  | .lread _ h => if p f.master then { f with kind := .lread false h } else f
  | _ => f

/-- A released read of mode ARM becomes DISARMED; the others keep their mode (R31). -/
def ArmMode.disarm (a : ArmMode) : ArmMode :=
  match a with
  | .arm _ => .disarmed
  | .disarmed => .disarmed
  | .plain => .plain

/-- A released read disarmed when chosen (R31). -/
def Released.disarm (p : Released → Bool) (r : Released) : Released :=
  if p r then { r with mode := r.mode.disarm } else r

/-- The reservations of the chosen masters are cleared, with the armed marks of their LREAD entries (R29), and their
released reads of mode ARM become DISARMED, whether or not a reservation was present (R31). -/
def State.clearReservations (s : State) (p : Master → Bool) : State :=
  { s.mapCtx (fun m c => if p m then { c with reservation := none } else c) with
    flight := s.flight.map (Flight.unmark p)
    released := s.released.map (Released.disarm fun r => p r.master) }

/-- The reservation of one master is cleared. -/
def State.clearReservation (s : State) (m : Master) : State := s.clearReservations fun i => decide (i = m)

/-- The reservation of one master is cleared when it is on the granule (R99). -/
def State.clearOwn (s : State) (m : Master) (g : Granule) : State :=
  if (s.ctx m).reservation = some g then s.clearReservation m else s

/-- The forwarding of a write clears every reservation on a granule in its range (R33). -/
def State.clearRange (s : State) (r : GranuleRange) : State :=
  s.clearReservations fun m => (s.ctx m).reservation.any fun g => s.inRange r g

/-- The released reads of mode ARM on a granule become DISARMED (R31, R35). -/
def State.disarmGranule (s : State) (g : Granule) : State :=
  { s with released := s.released.map (Released.disarm fun r => decide (r.granule = g)) }

/-- A transaction joins the tail of the flight list (R55, R56). -/
def State.track (s : State) (f : Flight) : State := { s with flight := s.flight ++ [f] }

/-- A linked read is forwarded and arms: the marks of its master's other LREAD entries are cleared, the reservation is
set, and an LREAD entry with its armed mark set joins the flight list (R29, R30). -/
def State.arm (s : State) (m : Master) (t : Tag) (a : Addr) (g : Granule) (h : Option EntryIx) : State :=
  let s := { s with flight := s.flight.map (Flight.unmark fun i => decide (i = m)) }
  let s := s.updCtx m fun c => { c with reservation := some g }
  s.track { kind := .lread true h, master := m, tag := t, address := a, range := s.rangeOf g }

/-! Hazard list and grant queues. -/

/-- A master's parked read is on the granule. -/
def State.parkedOn (s : State) (m : Master) (g : Granule) : Bool :=
  (s.ctx m).parked.any fun p => decide (p.granule = g)

/-- The chosen hazard reads on the entry's granule leave the hazard list and join the tail of its queue in hazard-list
order, with reason QUEUE (R35, R36, R67). These joins are not contention events. -/
def State.hazardToQueue (s : State) (e : EntryIx) (p : Master → Bool) : State :=
  let moves := fun m => p m && s.parkedOn m (s.entry e).granule
  let movers := s.hazard.filter moves
  let s' := s.mapCtx fun m c =>
    if m ∈ movers then { c with parked := c.parked.map fun r => { r with reason := .queue e } } else c
  { s'.updEntry e (fun x => { x with queue := x.queue ++ movers }) with
    hazard := s.hazard.filter fun m => !moves m }

/-- The holder-entries of a master's LREAD entries that name an entry are cleared (R57). -/
def Flight.dropHolder (m : Master) (e : EntryIx) (f : Flight) : Flight :=
  match f.kind with
  | .lread a h => if f.master = m ∧ h = some e then { f with kind := .lread a none } else f
  | _ => f

/-- The records that name a holdership which ends: its master's LREAD entries lose their holder-entry, and its released
read of mode ARM with that holder-entry becomes DISARMED (R57, R99). -/
def State.forgetHolder (s : State) (m : Master) (e : EntryIx) : State :=
  { s with
    flight := s.flight.map (Flight.dropHolder m e)
    released := s.released.map
      (Released.disarm fun r => decide (r.master = m) && decide (r.mode = ArmMode.arm (some e))) }

/-- The end of the holdership of an entry (R99, R36): both records, the tenure, the holder's reservation on the
granule, its released read and LREAD entries naming the entry, and its hazard re-read. An entry without a holder is
left as it is. The grant that may follow is `State.settle`. -/
def State.endHolding (s : State) (e : EntryIx) : State :=
  match (s.entry e).holder with
  | none => s
  | some m =>
    let g := (s.entry e).granule
    let s := s.updEntry e fun x => { x with holder := none, tenure := 0 }
    let s := s.updCtx m fun c => { c with holdership := none }
    let s := s.clearOwn m g
    let s := s.forgetHolder m e
    s.hazardToQueue e fun i => decide (i = m)

/-- The grant conditions (R94). -/
def State.grantable (s : State) (e : EntryIx) : Bool :=
  (s.entry e).serving && (s.entry e).holder.isNone && !(s.entry e).queue.isEmpty && !s.covered (s.entry e).granule

/-- The grant of an entry to the head of its queue (R95). -/
def State.grant (s : State) (e : EntryIx) (m : Master) : State :=
  let freed := ((s.ctx m).parked.map fun p => p.release m (ArmMode.arm (some e))).toList
  let s := s.updEntry e fun x =>
    { x with queue := x.queue.tail, holder := some m, tenure := (s.window x.granule.window).tenure.toNat }
  let s := s.updCtx m fun c => { c with parked := none, holdership := some e }
  { s with released := s.released ++ freed }

/-- The grant conditions are tested, and the grant is made when they hold (R94). -/
def State.attemptGrant (s : State) (e : EntryIx) : State :=
  match (s.entry e).queue.head? with
  | none => s
  | some m => if s.grantable e then s.grant e m else s

/-- The DRAIN exit: a DRAIN entry with no holder and an empty queue enters WATCH with GRANULE_COOL (R102). -/
def State.drainExit (s : State) (e : EntryIx) : State :=
  if (s.entry e).state = .drain ∧ (s.entry e).holder = none ∧ (s.entry e).queue = [] then
    (s.updEntry e fun x => { x with state := .watch }).notify (.granuleCool e (s.entry e).granule)
  else s

/-- After a holder release the grant conditions are tested and a DRAIN entry may exit (R99). -/
def State.settle (s : State) (e : EntryIx) : State := (s.attemptGrant e).drainExit e

/-- A holder release of any cause but window disable and CLEAR ALL (R99). -/
def State.releaseEntry (s : State) (e : EntryIx) : State := (s.endHolding e).settle e

/-! Contention events. -/

/-- An entry newly allocated for a granule (R74, R75). -/
def Entry.allocated (g : Granule) : Entry := { Entry.free with state := .watch, granule := g, count := 1 }

/-- The FREE entry of lowest index (R74). -/
def State.freeEntry (s : State) : Option EntryIx := entryIxs.find? fun e => decide ((s.entry e).state = .free)

/-- A candidate for replacement: WATCH with WARM clear (R75). -/
def Entry.replaceable (x : Entry) : Bool := decide (x.state = .watch) && !x.warm

/-- The candidate of lowest F, and of lowest index among equals (R75). -/
def State.coldest (s : State) : Option EntryIx :=
  entryIxs.foldl (fun best e =>
    if (s.entry e).replaceable then
      match best with
      | none => some e
      | some b => if (s.entry e).fast < (s.entry b).fast then some e else some b
    else best) none

/-- A contention event on a granule (R73 to R76): counted only where queued mode is allowed, on the granule's entry, or
on the lowest FREE entry, or on a replaced one; untracked otherwise. -/
def State.contentionEvent (s : State) (g : Granule) : State :=
  if !(s.window g.window).queuedAllowed then s
  else match s.entryFor g with
    | some e => s.updEntry e fun x => { x with count := min (x.count + 1) Config.countMax }
    | none =>
      match s.freeEntry with
      | some e => s.updEntry e fun _ => Entry.allocated g
      | none =>
        match s.coldest with
        | some e => s.updEntry e fun _ => Entry.allocated g
        | none => s.notify (.untracked g)

/-! Window disable and CLEAR ALL. -/

/-- A released read of a chosen window becomes PLAIN, whatever its mode (R31, R37). -/
def Released.toPlain (p : WindowIx → Bool) (r : Released) : Released :=
  if p r.granule.window then { r with mode := .plain } else r

/-- What a context keeps when the chosen windows are dissolved (R37). -/
def State.keptParts (s : State) (p : WindowIx → Bool) (c : Context) : Context :=
  { reservation := c.reservation.filter fun g => !p g.window
    parked := c.parked.filter fun r => !p r.granule.window
    holdership := c.holdership.filter fun e => !p (s.entry e).granule.window }

/-- The released reads that a dissolution makes of the parked reads of the chosen windows: the grant queues in entry
and queue order, then the hazard list in its order (R68, R109; log entry 14). -/
def State.dissolvedReads (s : State) (p : WindowIx → Bool) : List Released :=
  (entryIxs.flatMap (fun e => (s.entry e).queue) ++ s.hazard).filterMap fun m =>
    ((s.ctx m).parked.filter fun r => p r.granule.window).map fun r => r.release m ArmMode.plain

/-- What an LREAD entry keeps at a dissolution: its mark only with its master's reservation, its holder-entry only when
the entry named is not dissolved (R57, R68). -/
def State.keptMarks (s : State) (p : WindowIx → Bool) (f : Flight) : Flight :=
  match f.kind with
  | .lread a h =>
    { f with kind := .lread (a && (s.keptParts p (s.ctx f.master)).reservation.isSome)
                            (h.filter fun e => !p (s.entry e).granule.window) }
  | _ => f

/-- The effect of window disable events for the chosen windows on every owner but the window table (R13, R37, R68,
R90, R109); CLEAR ALL is the same for every window (R38, R110). -/
def State.dissolve (s : State) (p : WindowIx → Bool) : State :=
  let s' := s.mapCtx fun _ c => s.keptParts p c
  { s'.mapEntries (fun _ x => if p x.granule.window then Entry.free else x) with
    flight := s.flight.map (s.keptMarks p)
    hazard := s.hazard.filter fun m => (s'.ctx m).parked.isSome
    released := s.released.map (Released.toPlain p) ++ s.dissolvedReads p }

end Sys2Proof.Machine
end

