-- ==== Sys2Proof/Machine/Far.lean ====
section
/-! DEFINITION. The far port and the near reply channel: far responses, write removals, the arbiter, the reply queue. -/

namespace Sys2Proof.Machine

/-- A hazard read is released when no write in flight covers its granule (R63). -/
def State.uncovered (s : State) (m : Master) : Bool := (s.ctx m).parked.any fun p => !s.covered p.granule

/-- The hazard list tests its reads in list order and releases the uncovered ones with mode ARM, each with a
holder-entry when its master holds the granule's entry (R63). -/
def State.releaseHazards (s : State) : State :=
  let freed := s.hazard.filter s.uncovered
  let reads := freed.filterMap fun m =>
    (s.ctx m).parked.map fun p => p.release m (.arm (s.heldEntry m p.granule))
  { s.mapCtx (fun m c => if m ∈ freed then { c with parked := none } else c) with
    hazard := s.hazard.filter fun m => !s.uncovered m
    released := s.released ++ reads }

/-- A grant is attempted on every entry whose granule the range includes (R60, R112).

DESIGN CHOICE (log entry 22): the rules give the grants of one removal no order; here they are made in index order. -/
def State.grantsIn (s : State) (r : GranuleRange) : State :=
  entryIxs.foldl (fun s e => if s.inRange r (s.entry e).granule then s.attemptGrant e else s) s

/-- A write removal, with the entry already gone from the list (R60).

DESIGN CHOICE (log entry 22): R60 and R112 leave open how the reads that one removal hands over stand at the arbiter; here
the hazard reads, in their list order (R63), stand before the granted ones. -/
def State.writeRemoval (s : State) (r : GranuleRange) : State := s.releaseHazards.grantsIn r

/-- The flight-list entry of a master and tag (R58). -/
def State.flightOf (s : State) (m : Master) (t : Tag) : Option Flight :=
  s.flight.find? fun f => decide (f.master = m) && decide (f.tag = t)

/-- A far ERROR on an LREAD entry (R32, R101): the reservation is cleared when the armed mark is set, and the holder is
released when the holder-entry is present and still names its holdership.

DESIGN CHOICE (log entry 21): the armed mark may be clear and the holder-entry present, when a later re-read of the holder
has armed the granule again (R27, R29). R32 and R59 then keep that later reservation and say that the release clears no
further one; R36, R99 and Law 4 clear the reservation on the granule at every release. Here the release clears it. -/
def State.readFailed (s : State) (m : Master) (armed : Bool) (h : Option EntryIx) : State :=
  let s := if armed then s.clearReservation m else s
  match h with
  | some e => if (s.entry e).holder = some m then s.releaseEntry e else s
  | none => s

/-- The near reply of a tracked transaction (R59, R117): EXOKAY or OKAY on OK, BUSERR on ERROR; only a read returns data. -/
def Flight.reply (f : Flight) (st : FarStatus) (d : Data) : NearReply :=
  match st, f.kind with
  | .error, _ => { master := f.master, tag := f.tag, status := .buserr, data := 0#512 }
  | .ok, .write => { master := f.master, tag := f.tag, status := .okay, data := 0#512 }
  | .ok, .cwrite => { master := f.master, tag := f.tag, status := .exokay, data := 0#512 }
  | .ok, .lread _ _ => { master := f.master, tag := f.tag, status := .exokay, data := d }

/-- The removal of a flight-list entry: MEMORY_ERROR on ERROR, then the further effects of its kind (R59). -/
def State.remove (s : State) (f : Flight) (st : FarStatus) : State :=
  let s := { s with flight := s.flight.erase f }
  let s := if st = .error then s.notify (.memoryError f.master f.tag f.address) else s
  match f.kind with
  | .write => s.writeRemoval f.range
  | .cwrite => s.writeRemoval f.range
  | .lread armed h => if st = .error then s.readFailed f.master armed h else s

/-- The near reply of a transaction that is not in the flight list: `good` on OK with the far response's data,
BUSERR with all-zero data on ERROR (R58, R117). -/
def untrackedReply (m : Master) (t : Tag) (good : ReplyStatus) (st : FarStatus) (d : Data) : NearReply :=
  match st with
  | .ok => { master := m, tag := t, status := good, data := d }
  | .error => { master := m, tag := t, status := .buserr, data := 0#512 }

/-- The near reply of a far response, by the flight-list entry, the NOMON mark or the plain path that it matches (R58). -/
def State.replyTo (s : State) (r : FarResponse) : NearReply :=
  match s.flightOf r.master r.tag with
  | some f => f.reply r.status r.data
  | none => untrackedReply r.master r.tag (if s.nomonMark r.master r.tag then .nomon else .okay) r.status r.data

/-- The records a far response changes: its flight-list entry is removed, or its NOMON mark is cleared (R58). -/
def State.settleResponse (s : State) (r : FarResponse) : State :=
  match s.flightOf r.master r.tag with
  | some f => s.remove f r.status
  | none => if s.nomonMark r.master r.tag then s.setNomon r.master r.tag false else s

/-- A far response is matched by master and tag, and replied in the same event (R58, R117). -/
def State.respond (s : State) (r : FarResponse) : State := (s.settleResponse r).replied (s.replyTo r)

/-- Far response ready: high in reset (R131, R155), and otherwise high when the reply queue is empty and near reply ready
is high (R117, R153). -/
def State.farResponseReady (s : State) (replyReady : Bool) : Bool := s.inReset || (s.replies.isEmpty && replyReady)

/-- FAR_RESPONSE (R58): taken when it can be replied at once. While RESET_N is asserted every far response is taken and
discarded (R131); while REFCLK is stopped none is taken (R154; log entry 19). -/
def execFarResponse (m : Master) (t : Tag) (st : FarStatus) (d : Data) (replyReady : Bool) (s : State) :
    Host.Outcome State Fault Refusal :=
  let s := s.quiet
  if s.refclkRunning && s.farResponseReady replyReady then
    if s.inReset then .next s.took
    else .next (s.respond { master := m, tag := t, status := st, data := d }).took
  else .next s

/-- The near reply that a queued reply becomes (R125). -/
def QueuedReply.toNear (r : QueuedReply) : NearReply :=
  { master := r.master, tag := r.tag, status := r.status, data := 0#512 }

/-- REPLY_QUEUE_SEND (R126): the oldest reply is sent. With an empty queue there is nothing to send. -/
def execReplyQueueSend (s : State) : Host.Outcome State Fault Refusal :=
  let s := s.quiet
  if s.live then
    match s.replies with
    | r :: rest => .next ({ s with replies := rest }.replied r.toNear).took
    | [] => .next s
  else .next s

/-- A waiting released read may be forwarded when its mode is PLAIN, or when a flight-list entry is free (R124). -/
def State.mayForward (s : State) (r : Released) : Bool := decide (r.mode = .plain) || s.flightRoom

/-- The arbiter's choice: the lowest master number among the reads that may be forwarded, the one released first among
reads of one master (R124). -/
def State.arbiter (s : State) : Option Released :=
  (s.released.filter s.mayForward).foldl (fun best r =>
    match best with
    | none => some r
    | some b => if r.master < b.master then some r else some b) none

/-- A released read is forwarded according to its arming mode (R30, R58). -/
def State.forwardRead (s : State) (r : Released) : State :=
  let s := { s with released := s.released.erase r }
  match r.mode with
  | .arm h => (s.arm r.master r.tag r.address r.granule h).forwarded r.toFar
  | .disarmed =>
    (s.track { kind := .lread false none, master := r.master, tag := r.tag, address := r.address
               range := s.rangeOf r.granule }).forwarded r.toFar
  | .plain => (s.setNomon r.master r.tag true).forwarded r.toFar

/-- RELEASED_READ_FORWARDING (R124, R30). When no released read may be forwarded, nothing is. -/
def execReleasedReadForwarding (s : State) : Host.Outcome State Fault Refusal :=
  let s := s.quiet
  if s.live then
    match s.arbiter with
    | some r => .next (s.forwardRead r).took
    | none => .next s
  else .next s

end Sys2Proof.Machine
end

