-- ==== Sys2Proof/Machine/Formats.lean ====
section
/-! DEFINITION. Register and record layouts of the management link (09_management_link.md, Formats). -/

namespace Sys2Proof.Machine

/-- A 32-bit value as four bytes, most significant first (R146). -/
def wordBytes (v : Word32) : List Byte :=
  [v.extractLsb' 24 8, v.extractLsb' 16 8, v.extractLsb' 8 8, v.extractLsb' 0 8]

/-- Four bytes, most significant first, as a 32-bit value (R146). -/
def bytesWord (a b c d : Byte) : Word32 := a ++ b ++ c ++ d

/-- CONTROL: notice kind mask (21 to 16), sample code (5 to 4), MON (0). -/
def State.controlValue (s : State) : Word32 :=
  0#10 ++ s.mask ++ 0#10 ++ s.sampleCode ++ 0#3 ++ BitVec.ofBool s.mon

/-- SHAPE: d (17 to 16), auto-gate (13), queued-mode allowed (12), granule code (9 to 8), size code (4 to 0). -/
def Window.shapeValue (r : Window) : Word32 :=
  0#14 ++ r.decay ++ 0#2 ++ BitVec.ofBool r.autoGate ++ BitVec.ofBool r.queuedAllowed ++ 0#2 ++ r.granuleCode
    ++ 0#3 ++ r.sizeCode

/-- LIMITS: tenure (23 to 16), HY (12 to 8), TH (5 to 0). -/
def Window.limitsValue (r : Window) : Word32 := 0#8 ++ r.tenure ++ 0#3 ++ r.hy ++ 0#2 ++ r.th

/-- ENABLE: enable (0). -/
def Window.enableValue (r : Window) : Word32 := 0#31 ++ BitVec.ofBool r.enable

/-- The value a register returns (R146). -/
def State.registerValue (s : State) (r : Reg) : Word32 :=
  match r with
  | .id => Config.idValue
  | .control => s.controlValue
  | .base w => (s.window w).base
  | .shape w => (s.window w).shapeValue
  | .limits w => (s.window w).limitsValue
  | .enable w => (s.window w).enableValue

/-- The code of an entry's state in its record. -/
def Mode.code (m : Mode) : BitVec 2 :=
  match m with
  | .free => 0#2
  | .watch => 1#2
  | .queued => 2#2
  | .drain => 3#2

/-- Entry record (READ ENTRY, R148). -/
def Entry.record (x : Entry) : List Byte :=
  [x.state.code ++ BitVec.ofNat 2 x.granule.window.val ++ BitVec.ofBool x.warm ++ BitVec.ofBool x.hot ++ 0#2]
    ++ wordBytes x.granule.base
    ++ [BitVec.ofNat 8 (x.fast / 256), BitVec.ofNat 8 x.fast, BitVec.ofNat 8 (x.slow / 256), BitVec.ofNat 8 x.slow,
        BitVec.ofNat 4 x.count ++ 0#4,
        BitVec.ofBool x.holder.isSome ++ 0#3 ++ BitVec.ofNat 4 ((x.holder.map Fin.val).getD 0),
        BitVec.ofNat 8 x.tenure,
        BitVec.ofNat 8 x.queue.length]
    ++ x.queue.map fun m => BitVec.ofNat 8 m.val

/-- Context record (READ CONTEXT, R148): the fields of an absent part read zero. -/
def Context.record (c : Context) : List Byte :=
  let res := c.reservation.getD { base := 0#32, window := 0 }
  let park := c.parked.getD { tag := 0, address := 0#32, size := 0, granule := { base := 0#32, window := 0 }, reason := .hazard }
  let why : Byte := match park.reason with
    | .hazard => 0#8
    | .queue e => 1#1 ++ 0#2 ++ BitVec.ofNat 5 e.val
  [BitVec.ofBool c.reservation.isSome ++ BitVec.ofBool c.parked.isSome ++ BitVec.ofBool c.holdership.isSome ++ 0#3
      ++ BitVec.ofNat 2 res.window.val]
    ++ wordBytes res.base
    ++ [BitVec.ofNat 3 park.tag.val ++ BitVec.ofNat 3 park.size.val ++ BitVec.ofNat 2 park.granule.window.val, why]
    ++ wordBytes park.address
    ++ wordBytes park.granule.base
    ++ [BitVec.ofNat 8 ((c.holdership.map Fin.val).getD 0)]

/-- The code of a reason in a notice record. -/
def Reason.code (r : Reason) : BitVec 3 :=
  match r with
  | .misaligned => 1#3
  | .badSize => 2#3
  | .badAttribute => 3#3
  | .splitGranule => 4#3
  | .parkedBusy => 5#3
  | .dupTag => 6#3

/-- The eight bytes of a notice record from its fields: kind, master, tag, entry, reason, window, address. -/
def noticeBytes (kind : Byte) (m t e : Nat) (reason : BitVec 3) (w : Nat) (a : Addr) : List Byte :=
  [kind, BitVec.ofNat 4 m ++ 0#1 ++ BitVec.ofNat 3 t, BitVec.ofNat 8 e, 0#1 ++ reason ++ 0#2 ++ BitVec.ofNat 2 w]
    ++ wordBytes a

/-- Notice record (TAKE NOTICE, R138): each absent field is zero (R133). -/
def Notice.record (n : Notice) : List Byte :=
  match n with
  | .granuleHot e g => noticeBytes 1#8 0 0 e.val 0#3 g.window.val g.base
  | .granuleCool e g => noticeBytes 2#8 0 0 e.val 0#3 g.window.val g.base
  | .tenureExpired m e a => noticeBytes 3#8 m.val 0 e.val 0#3 0 a
  | .protocol m t a r => noticeBytes 4#8 m.val t.val 0 r.code 0 a
  | .untracked g => noticeBytes 5#8 0 0 0 0#3 g.window.val g.base
  | .memoryError m t a => noticeBytes 6#8 m.val t.val 0 0#3 0 a

/-- The record TAKE NOTICE returns: the head of the queue, or kind NONE with every field zero (R149). -/
def State.noticeRecord (s : State) : List Byte :=
  match s.notices with
  | n :: _ => n.record
  | [] => List.replicate 8 0#8

/-- How many entries are FREE (R70). -/
def State.freeCount (s : State) : Nat := (entryIxs.filter fun e => decide ((s.entry e).state = .free)).length

/-- Status record (READ STATUS, R149). -/
def State.statusRecord (s : State) : List Byte :=
  [0#4 ++ s.flagBits, BitVec.ofNat 8 s.notices.length, BitVec.ofNat 8 s.flight.length,
   BitVec.ofNat 8 s.hazard.length, BitVec.ofNat 8 s.freeCount]

end Sys2Proof.Machine
end

