-- ==== Sys2Proof/Machine/Registers.lean ====
section
/-! DEFINITION. What a taken register write does: the window programming rules, MON, and the window disable event. -/

namespace Sys2Proof.Machine

/-- REFUSED is set (R147). -/
def State.refuse (s : State) : State := { s with link := { s.link with refused := true } }

/-- One window record replaced. -/
def State.updWindow (s : State) (w : WindowIx) (f : Window → Window) : State :=
  { s with windows := Vector.ofFn fun i => if i = w then f (s.window i) else s.window i }

/-- The base is a multiple of the window size (R9). -/
def Window.alignedBase (r : Window) : Bool := decide (r.base.toNat % r.bytes = 0)

/-- HY is 0, or 2 × TH > HY (R9). -/
def Window.hysteresisOk (r : Window) : Bool := decide (r.hy.toNat = 0) || decide (r.hy.toNat < 2 * r.th.toNat)

/-- The window's range shares a byte with that of another window whose enable field is set (R9). -/
def State.overlapsOther (s : State) (w : WindowIx) : Bool :=
  windowIxs.any fun i => decide (i ≠ w) && (s.window i).enable && (s.window i).overlaps (s.window w)

/-- The checks of R9 for setting a window's enable field. -/
def State.mayEnable (s : State) (w : WindowIx) : Bool :=
  (s.window w).alignedBase && (s.window w).hysteresisOk && !s.overlapsOther w

/-- A write to BASE (R8): refused while enabled, or when not a multiple of 4 KiB. -/
def State.writeBase (s : State) (w : WindowIx) (v : Word32) : State :=
  if (s.window w).enable || decide (v.extractLsb' 0 12 ≠ 0#12) then s.refuse
  else s.updWindow w fun r => { r with base := v }

/-- A write to SHAPE (R8): refused while enabled, or with a size code of 19 or more. -/
def State.writeShape (s : State) (w : WindowIx) (v : Word32) : State :=
  if (s.window w).enable || decide (19 ≤ (v.extractLsb' 0 5).toNat) then s.refuse
  else s.updWindow w fun r =>
    { r with
      decay := v.extractLsb' 16 2
      autoGate := v.getLsbD 13
      queuedAllowed := v.getLsbD 12
      granuleCode := v.extractLsb' 8 2
      sizeCode := v.extractLsb' 0 5 }

/-- A write to LIMITS (R8): refused while enabled, or with a tenure of 0. -/
def State.writeLimits (s : State) (w : WindowIx) (v : Word32) : State :=
  if (s.window w).enable || decide (v.extractLsb' 16 8 = 0#8) then s.refuse
  else s.updWindow w fun r =>
    { r with tenure := v.extractLsb' 16 8, hy := v.extractLsb' 8 5, th := v.extractLsb' 0 6 }

/-- A write to ENABLE, judged by bit 0 alone (R146): setting makes the checks of R9; clearing takes a window disable
event when the window was ACTIVE (R10, R13). -/
def State.writeEnable (s : State) (w : WindowIx) (v : Word32) : State :=
  if v.getLsbD 0 then
    if (s.window w).enable then s
    else if s.mayEnable w then s.updWindow w fun r => { r with enable := true }
    else s.refuse
  else
    let s := if s.active w then s.dissolve fun i => decide (i = w) else s
    s.updWindow w fun r => { r with enable := false }

/-- A write to CONTROL: MON, sample code and mask together; MON from on to off takes a window disable event for each
ACTIVE window (R11). The running sample period keeps its length (R12), but the period that begins at an expiry of the same
moment takes the new one, as if the write had been taken first (R154; log entry 20). -/
def State.writeControl (s : State) (v : Word32) : State :=
  let s := if s.mon && !v.getLsbD 0 then s.dissolve fun i => s.active i else s
  { s with
    mon := v.getLsbD 0
    sampleCode := v.extractLsb' 4 2
    mask := v.extractLsb' 16 6
    sampleLength := if s.atExpiry then Config.samplePeriod (v.extractLsb' 4 2) else s.sampleLength }

/-- A WRITE REGISTER judged at its last byte (R146). -/
def State.writeRegister (s : State) (a : Byte) (v : Word32) : State :=
  match decodeRegister a with
  | none => s.refuse
  | some .id => s.refuse
  | some .control => s.writeControl v
  | some (.base w) => s.writeBase w v
  | some (.shape w) => s.writeShape w v
  | some (.limits w) => s.writeLimits w v
  | some (.enable w) => s.writeEnable w v

end Sys2Proof.Machine
end

