-- ==== Sys2Proof/Machine/Link.lean ====
section
/-! DEFINITION. The management link: the frame state machine, its commands, and the rows that are frames. -/

namespace Sys2Proof.Machine

/-- The link record replaced by a function of it. -/
def State.updLink (s : State) (f : Link → Link) : State := { s with link := f s.link }

/-- CLEAR ALL (R150): every owner clears its own state; the mask, the windows, the flight list, the marks, the reply
queue, REFUSED and the timebase stay. -/
def State.clearAll (s : State) : State :=
  { s.dissolve (fun _ => true) with notices := [], overflow := false }

/-- RELEASE HOLDER of an index byte (R107), refused as R108 says. -/
def State.releaseHolder (s : State) (i : Byte) : State :=
  if h : i.toNat < 32 then
    if (s.entry ⟨i.toNat, h⟩).serving && (s.entry ⟨i.toNat, h⟩).holder.isSome then s.releaseEntry ⟨i.toNat, h⟩
    else s.refuse
  else s.refuse

/-- The snapshot to be returned from now on, in state RETURN (R145). -/
def State.returns (s : State) (l : List Byte) : State := s.updLink fun k => { k with phase := .ret, shiftOut := l }

/-- A READ REGISTER address byte: the snapshot, or four zero bytes with REFUSED (R146). -/
def State.askRegister (s : State) (a : Byte) : State :=
  match decodeRegister a with
  | some r => s.returns (wordBytes (s.registerValue r))
  | none => s.refuse.returns (List.replicate 4 0#8)

/-- A READ ENTRY index byte: the snapshot, or 13 zero bytes with REFUSED (R148). -/
def State.askEntry (s : State) (i : Byte) : State :=
  if h : i.toNat < 32 then s.returns (s.entry ⟨i.toNat, h⟩).record
  else s.refuse.returns (List.replicate 13 0#8)

/-- A READ CONTEXT master byte: the snapshot, or 16 zero bytes with REFUSED (R148). -/
def State.askContext (s : State) (i : Byte) : State :=
  if h : i.toNat < 16 then s.returns (s.ctx ⟨i.toNat, h⟩).record
  else s.refuse.returns (List.replicate 16 0#8)

/-- A complete command byte (R144): a command without an argument takes its snapshot here, or acts (CLEAR ALL); the
READ STATUS snapshot clears the discard mark (R139). -/
def State.commandByte (s : State) (b : Byte) : State :=
  let s := s.updLink fun k => { k with command := decodeCommand b }
  match decodeCommand b with
  | none => s.refuse.updLink fun k => { k with phase := .ignore }
  | some .takeNotice => (s.updLink fun k => { k with headTaken := !s.notices.isEmpty }).returns s.noticeRecord
  | some .readStatus => { s.returns s.statusRecord with discardMark := false }
  | some .clearAll => s.clearAll.updLink fun k => { k with phase := .ignore }
  | some _ => s.updLink fun k => { k with phase := .argument }

/-- A complete argument byte (R144). -/
def State.argumentByte (s : State) (b : Byte) : State :=
  match s.link.command with
  | some .readRegister => s.askRegister b
  | some .writeRegister => s.updLink fun k => { k with phase := .data, argument := b }
  | some .readEntry => s.askEntry b
  | some .readContext => s.askContext b
  | some .releaseHolder => (s.releaseHolder b).updLink fun k => { k with phase := .ignore }
  | _ => s.updLink fun k => { k with phase := .ignore }

/-- A complete data byte; the fourth is the last byte of a WRITE REGISTER frame (R144, R146). -/
def State.dataByte (s : State) (b : Byte) : State :=
  match s.link.dataIn with
  | [x, y, z] =>
    (s.writeRegister s.link.argument (bytesWord x y z b)).updLink fun k =>
      { k with phase := .ignore, dataIn := k.dataIn ++ [b] }
  | _ => s.updLink fun k => { k with dataIn := k.dataIn ++ [b] }

/-- The last returned byte has been shifted out: TAKE NOTICE removes its notice (R138), READ STATUS clears REFUSED, and
OVERFLOW unless a discard followed its snapshot (R139, R149). -/
def State.finishReturn (s : State) : State :=
  match s.link.command with
  | some .takeNotice => if s.link.headTaken then { s with notices := s.notices.tail } else s
  | some .readStatus => { s.updLink (fun k => { k with refused := false }) with overflow := s.overflow && s.discardMark }
  | _ => s

/-- A returned byte shifted out (R144). -/
def State.returnByte (s : State) : State :=
  let s := s.updLink fun k => { k with shiftOut := k.shiftOut.tail }
  if s.link.shiftOut.isEmpty then s.finishReturn.updLink fun k => { k with phase := .ignore } else s

/-- The byte MSO carries next (R142): the status byte during the command byte, returned bytes, zero otherwise. -/
def Link.outByte (k : Link) : Byte :=
  match k.phase with
  | .command => k.status
  | .ret => k.shiftOut.headD 0#8
  | _ => 0#8

/-- A byte of the frame is complete: MSO carried its byte, and the frame state follows R144. While REFCLK is stopped the
byte acts on nothing and the frame goes to IGNORE (R154). With no frame in progress clocks are ignored (R152, R157). -/
def State.linkByte (s : State) (b : Byte) : State :=
  if s.link.phase = .idle then s
  else
    let s := s.updLink fun k => { k with mso := k.mso ++ [k.outByte], done := k.done + 1 }
    if !s.refclkRunning then s.updLink fun k => { k with phase := .ignore }
    else match s.link.phase with
      | .command => s.commandByte b
      | .argument => s.argumentByte b
      | .data => s.dataByte b
      | .ret => s.returnByte
      | .ignore => s
      | .idle => s

/-- MCS_N falls: a frame begins with its status byte sampled (R142 to R144). While RESET_N is asserted the link takes no
frame (R152). -/
def State.mcsFall (s : State) : State :=
  if s.link.mcsLow then s
  else if s.inReset then s.updLink fun k => { k with mcsLow := true }
  else s.updLink fun k =>
    { k with
      phase := .command, command := none, done := 0, argument := 0#8, dataIn := [], shiftOut := []
      status := s.statusByte, headTaken := false, mcsLow := true, mso := [], msoBits := [] }

/-- MCS_N rises: the frame state is IDLE (R144). -/
def State.mcsRise (s : State) : State := s.updLink fun k => { k with phase := .idle, mcsLow := false }

/-- The MSI bytes of a frame are clocked in, each at its place in the frame; past its bytes MSI is not used (R142). -/
def State.clockBytes (s : State) (frame : List Byte) (n : Nat) : State :=
  match n with
  | 0 => s
  | n + 1 => (s.linkByte (frame.getD s.link.done 0#8)).clockBytes frame n

/-- A frame, or the part of it that one command clocks (R142; log entry 11). -/
def State.runFrame (s : State) (frame : List Byte) (f : Frame) : State :=
  let s := if f.starts then s.mcsRise.mcsFall else s
  let s := s.clockBytes frame f.bytes
  if f.ends then s.mcsRise else s

/-- A command that is a frame: the link takes it unless RESET_N is asserted, when only MCS_N moves (R152). -/
def State.frameCommand (s : State) (frame : List Byte) (f : Frame) : State :=
  let s' := s.quiet.runFrame frame f
  if s.inReset then s' else s'.took

/-- The MSI bytes of a WRITE REGISTER frame (R142, R146). -/
def writeFrame (a : Byte) (v : Word32) : List Byte := [commandCode .writeRegister, a] ++ wordBytes v

/-- READ_REGISTER (R146). -/
def execReadRegister (a : Byte) (f : Frame) (s : State) : Host.Outcome State Fault Refusal :=
  .next (s.frameCommand [commandCode .readRegister, a] f)

/-- WRITE_REGISTER (R146). -/
def execWriteRegister (a : Byte) (v : Word32) (f : Frame) (s : State) : Host.Outcome State Fault Refusal :=
  .next (s.frameCommand (writeFrame a v) f)

/-- WRITE_CONTROL (R11). -/
def execWriteControl (v : Word32) (f : Frame) (s : State) : Host.Outcome State Fault Refusal :=
  .next (s.frameCommand (writeFrame (registerAddress .control) v) f)

/-- ENABLE_SET (R9). -/
def execEnableSet (w : WindowIx) (upper : BitVec 31) (f : Frame) (s : State) : Host.Outcome State Fault Refusal :=
  .next (s.frameCommand (writeFrame (registerAddress (.enable w)) (upper ++ 1#1)) f)

/-- ENABLE_CLEAR (R10). -/
def execEnableClear (w : WindowIx) (upper : BitVec 31) (f : Frame) (s : State) : Host.Outcome State Fault Refusal :=
  .next (s.frameCommand (writeFrame (registerAddress (.enable w)) (upper ++ 0#1)) f)

/-- READ_ENTRY (R148). -/
def execReadEntry (i : Byte) (f : Frame) (s : State) : Host.Outcome State Fault Refusal :=
  .next (s.frameCommand [commandCode .readEntry, i] f)

/-- READ_CONTEXT (R148). -/
def execReadContext (i : Byte) (f : Frame) (s : State) : Host.Outcome State Fault Refusal :=
  .next (s.frameCommand [commandCode .readContext, i] f)

/-- TAKE_NOTICE (R138). -/
def execTakeNotice (f : Frame) (s : State) : Host.Outcome State Fault Refusal :=
  .next (s.frameCommand [commandCode .takeNotice] f)

/-- READ_STATUS (R149). -/
def execReadStatus (f : Frame) (s : State) : Host.Outcome State Fault Refusal :=
  .next (s.frameCommand [commandCode .readStatus] f)

/-- CLEAR_ALL (R150). -/
def execClearAll (f : Frame) (s : State) : Host.Outcome State Fault Refusal :=
  .next (s.frameCommand [commandCode .clearAll] f)

/-- RELEASE_HOLDER (R107, R108). -/
def execReleaseHolder (i : Byte) (f : Frame) (s : State) : Host.Outcome State Fault Refusal :=
  .next (s.frameCommand [commandCode .releaseHolder, i] f)

/-- UNKNOWN_COMMAND (R144). -/
def execUnknownCommand (c : Byte) (f : Frame) (s : State) : Host.Outcome State Fault Refusal :=
  .next (s.frameCommand [c] f)

/-- The bits of a byte, most significant first (R142). -/
def bitsOf (b : Byte) : List Bool := (List.range 8).map fun i => b.getLsbD (7 - i)

/-- SHORT_FRAME (R145): MCS_N falls, as many bits of the status byte as were clocked are returned (R143), and MCS_N
rises before the command byte is complete. -/
def execShortFrame (bits : Fin 8) (s : State) : Host.Outcome State Fault Refusal :=
  let s' := s.quiet.mcsRise.mcsFall
  if s.inReset then .next s'.mcsRise
  else .next ((s'.updLink fun k => { k with msoBits := (bitsOf k.status).take bits.val }).mcsRise).took

end Sys2Proof.Machine
end

