-- ==== Sys2Proof/Machine/Near.lean ====
section
/-! DEFINITION. The near port: checks, dispositions, acceptance of requests, and withdrawals. -/

namespace Sys2Proof.Machine

/-- The master and tag equal those of a flight-list entry, of the master's parked read, or of a released read of the
master waiting at the arbiter (R118, DUP_TAG). -/
def State.dupTag (s : State) (m : Master) (t : Tag) : Bool :=
  (s.flight.any fun f => decide (f.master = m) && decide (f.tag = t))
    || ((s.ctx m).parked.any fun p => decide (p.tag = t))
    || (s.released.any fun r => decide (r.master = m) && decide (r.tag = t))

/-- A linked read or conditional write whose size exceeds the granule size of its window (R7). -/
def State.split (s : State) (r : Request) : Bool :=
  decide (r.attr ≠ .plain) && (s.classify r.address).any fun w => decide (s.granuleBytes w < sizeBytes r.size)

/-- The first check that fails, in the order of R118. -/
def State.refusal (s : State) (r : Request) : Option Reason :=
  if !aligned r.address r.size then some .misaligned
  else if r.size = 7 then some .badSize
  else if (r.attr = .linked ∧ r.kind = .write) ∨ (r.attr = .conditional ∧ r.kind = .read) then some .badAttribute
  else if s.split r then some .splitGranule
  else if r.attr = .linked ∧ (s.ctx r.master).parked.isSome then some .parkedBusy
  else if s.dupTag r.master r.tag then some .dupTag
  else none

/-- What the head request would do if it were accepted now (R120). -/
inductive Disposition where
  /-- Refused by a check (R119). -/
  | refused (why : Reason)
  /-- A plain read, or a plain write outside every window (R122). -/
  | forwardPlain
  /-- A linked read outside every window (R22). -/
  | forwardNomon
  /-- A plain write in a window (R122, R33). -/
  | forwardWrite (w : WindowIx)
  /-- A linked read forwarded and armed, with its holder-entry (R25, R27). -/
  | forwardLinked (g : Granule) (h : Option EntryIx)
  /-- A linked read parked behind a write in flight (R26, R27). -/
  | parkHazard (g : Granule)
  /-- A linked read parked in a grant queue (R28). -/
  | joinQueue (g : Granule) (e : EntryIx)
  /-- A conditional write outside every window (R41). -/
  | exfailOutside
  /-- A conditional write that passes (R43, R44). -/
  | writePasses (g : Granule)
  /-- A conditional write that fails (R43, R47). -/
  | writeFails (g : Granule)
  deriving DecidableEq, Repr

/-- The request would be forwarded at its acceptance (R120). -/
def Disposition.forwards (d : Disposition) : Bool :=
  match d with
  | .refused _ => false
  | .forwardPlain => true
  | .forwardNomon => true
  | .forwardWrite _ => true
  | .forwardLinked _ _ => true
  | .parkHazard _ => false
  | .joinQueue _ _ => false
  | .exfailOutside => false
  | .writePasses _ => true
  | .writeFails _ => false

/-- The request would join the flight list at its acceptance (R56, R61). -/
def Disposition.tracked (d : Disposition) : Bool :=
  match d with
  | .refused _ => false
  | .forwardPlain => false
  | .forwardNomon => false
  | .forwardWrite _ => true
  | .forwardLinked _ _ => true
  | .parkHazard _ => false
  | .joinQueue _ _ => false
  | .exfailOutside => false
  | .writePasses _ => true
  | .writeFails _ => false

/-- The granule is in queued operation, under the entry named (R24). -/
def State.servingEntry (s : State) (g : Granule) : Option EntryIx :=
  (s.entryFor g).filter fun e => (s.entry e).serving

/-- A linked read of master m in a window, by the mode of its granule (R24 to R28). -/
def State.judgeRead (s : State) (m : Master) (g : Granule) : Disposition :=
  match s.servingEntry g with
  | some e =>
    if (s.entry e).holder = some m then
      if s.covered g then .parkHazard g else .forwardLinked g (some e)
    else .joinQueue g e
  | none => if s.covered g then .parkHazard g else .forwardLinked g (s.heldEntry m g)

/-- The two conditions of the evaluation of a conditional write (R43). -/
def State.passes (s : State) (m : Master) (g : Granule) : Bool :=
  decide ((s.ctx m).reservation = some g)
    && (s.servingEntry g).all fun e => decide ((s.entry e).holder = some m)

/-- The disposition of a request against the state of this moment (R118 to R122). -/
def State.dispose (s : State) (r : Request) : Disposition :=
  match s.refusal r with
  | some why => .refused why
  | none =>
    match r.attr, s.classify r.address with
    | .plain, none => .forwardPlain
    | .plain, some w => if r.kind = .read then .forwardPlain else .forwardWrite w
    | .linked, none => .forwardNomon
    | .linked, some w => s.judgeRead r.master (s.granuleOf w r.address)
    | .conditional, none => .exfailOutside
    | .conditional, some w =>
      if s.passes r.master (s.granuleOf w r.address) then .writePasses (s.granuleOf w r.address)
      else .writeFails (s.granuleOf w r.address)

/-- Near request ready (R153), for a head request of this disposition: low in reset (R131, R155), and otherwise high when
everything the request needs is available (R120): room in the reply queue; for a forwarding, the far request channel free
and no released read waiting; for a tracked one, a free flight-list entry. -/
def State.requestReady (s : State) (d : Disposition) (farFree : Bool) : Bool :=
  !s.inReset && s.replyRoom && (!d.forwards || (farFree && s.released.isEmpty)) && (!d.tracked || s.flightRoom)

/-- The move (R23): the master's reservation is cleared, and its holdership of another granule's entry ends (R100). -/
def State.move (s : State) (m : Master) (g : Granule) : State :=
  let s := s.clearReservation m
  match (s.ctx m).holdership with
  | some e => if (s.entry e).holder = some m ∧ (s.entry e).granule ≠ g then s.releaseEntry e else s
  | none => s

/-- A linked read becomes its master's parked read (R26, R28). -/
def State.park (s : State) (r : Request) (g : Granule) (why : ParkReason) : State :=
  s.updCtx r.master fun c =>
    { c with parked := some { tag := r.tag, address := r.address, size := r.size, granule := g, reason := why } }

/-- A master joins the tail of a grant queue as a contention event, and the entry may grant (R28). -/
def State.joinQueue (s : State) (r : Request) (g : Granule) (e : EntryIx) : State :=
  let s := s.park r g (.queue e)
  let s := s.updEntry e fun x => { x with queue := x.queue ++ [r.master] }
  (s.contentionEvent g).attemptGrant e

/-- The holder release by failure of whichever entry the master holds (R48). -/
def State.releaseHeld (s : State) (m : Master) : State :=
  match (s.ctx m).holdership with
  | some e => if (s.entry e).holder = some m then s.releaseEntry e else s
  | none => s

/-- A passing conditional write: the reservation is consumed, the others on the granule are cleared, the CWRITE entry
joins, and the holder is released by completion (R44, R45). -/
def State.passWrite (s : State) (r : Request) (g : Granule) : State :=
  let s := (s.clearReservation r.master).clearRange (s.rangeOf g)
  let s := s.track { kind := .cwrite, master := r.master, tag := r.tag, address := r.address, range := s.rangeOf g }
  match s.heldEntry r.master g with
  | some e => s.releaseEntry e
  | none => s

/-- A failing conditional write: the reservation is cleared, the contention event is taken, then the holder release by
failure, and EXFAIL joins the reply queue (R47, R48, R49). -/
def State.failWrite (s : State) (r : Request) (g : Granule) : State :=
  (((s.clearReservation r.master).contentionEvent g).releaseHeld r.master).enqueue r.master r.tag .exfail

/-- The effect of an acceptance, by disposition (R119, R122, R22, R25 to R28, R41, R44, R47). -/
def State.carryOut (s : State) (r : Request) (d : Disposition) : State :=
  match d with
  | .refused why => (s.enqueue r.master r.tag .seqerr).notify (.protocol r.master r.tag r.address why)
  | .forwardPlain => s.forwarded r.toFar
  | .forwardNomon => (s.setNomon r.master r.tag true).forwarded r.toFar
  | .forwardWrite w =>
    ((s.clearRange (s.writeRange w r.address r.size)).track
      { kind := .write, master := r.master, tag := r.tag, address := r.address
        range := s.writeRange w r.address r.size }).forwarded r.toFar
  | .forwardLinked g h => ((s.move r.master g).arm r.master r.tag r.address g h).forwarded r.toFar
  | .parkHazard g =>
    let s := (s.move r.master g).park r g .hazard
    { s with hazard := s.hazard ++ [r.master] }
  | .joinQueue g e => (s.move r.master g).joinQueue r g e
  | .exfailOutside => s.enqueue r.master r.tag .exfail
  | .writePasses g => (s.passWrite r g).forwarded r.toFar
  | .writeFails g => s.failWrite r g

/-- A request is offered at the head of the near request channel: it is accepted, as one event, when everything it
needs is available at a REFCLK edge (R153), and otherwise nothing happens and it is not taken (R120, R121; log entry
10). -/
def State.offer (s : State) (r : Request) (farFree : Bool) : State :=
  let s := s.quiet
  if s.refclkRunning && s.requestReady (s.dispose r) farFree then (s.carryOut r (s.dispose r)).took else s

/-- The request record of a LINKED_READ. -/
def linkedRequest (m : Master) (t : Tag) (k : Kind) (a : Addr) (z : SizeCode) : Request :=
  { master := m, tag := t, kind := k, attr := .linked, address := a, size := z, data := 0#512, strobes := 0#64 }

/-- The request record of a CONDITIONAL_WRITE. -/
def conditionalRequest (m : Master) (t : Tag) (k : Kind) (a : Addr) (z : SizeCode) (d : Data) (b : Strobes) : Request :=
  { master := m, tag := t, kind := k, attr := .conditional, address := a, size := z, data := d, strobes := b }

/-- The request record of a PLAIN_READ. -/
def plainReadRequest (m : Master) (t : Tag) (a : Addr) (z : SizeCode) : Request :=
  { master := m, tag := t, kind := .read, attr := .plain, address := a, size := z, data := 0#512, strobes := 0#64 }

/-- The request record of a PLAIN_WRITE. -/
def plainWriteRequest (m : Master) (t : Tag) (a : Addr) (z : SizeCode) (d : Data) (b : Strobes) : Request :=
  { master := m, tag := t, kind := .write, attr := .plain, address := a, size := z, data := d, strobes := b }

/-- LINKED_READ (R21 to R28). -/
def execLinkedRead (m : Master) (t : Tag) (k : Kind) (a : Addr) (z : SizeCode) (farFree : Bool) (s : State) :
    Host.Outcome State Fault Refusal :=
  .next (s.offer (linkedRequest m t k a z) farFree)

/-- CONDITIONAL_WRITE (R40 to R50). -/
def execConditionalWrite (m : Master) (t : Tag) (k : Kind) (a : Addr) (z : SizeCode) (d : Data) (b : Strobes)
    (farFree : Bool) (s : State) : Host.Outcome State Fault Refusal :=
  .next (s.offer (conditionalRequest m t k a z d b) farFree)

/-- PLAIN_READ (R122). -/
def execPlainRead (m : Master) (t : Tag) (a : Addr) (z : SizeCode) (farFree : Bool) (s : State) :
    Host.Outcome State Fault Refusal :=
  .next (s.offer (plainReadRequest m t a z) farFree)

/-- PLAIN_WRITE (R122, R33). -/
def execPlainWrite (m : Master) (t : Tag) (a : Addr) (z : SizeCode) (d : Data) (b : Strobes) (farFree : Bool)
    (s : State) : Host.Outcome State Fault Refusal :=
  .next (s.offer (plainWriteRequest m t a z d b) farFree)

/-- The parked read a withdrawal names (R129). -/
def State.withdrawn (s : State) (m : Master) (t : Tag) : Option Parked :=
  (s.ctx m).parked.filter fun p => decide (p.tag = t)

/-- Withdrawal ready: low in reset (R131, R155), and otherwise high unless the withdrawal would make CANCELLED while the
reply queue is full (R129, R153). -/
def State.withdrawReady (s : State) (m : Master) (t : Tag) : Bool :=
  !s.inReset && ((s.withdrawn m t).isNone || s.replyRoom)

/-- A parked read leaves its hazard list or its grant queue, and is replied CANCELLED (R39, R66, R105); a DRAIN entry
left with nothing takes the DRAIN exit. -/
def State.cancel (s : State) (m : Master) (p : Parked) : State :=
  let s := s.updCtx m fun c => { c with parked := none }
  let s := s.enqueue m p.tag .cancelled
  match p.reason with
  | .hazard => { s with hazard := s.hazard.filter fun i => decide (i ≠ m) }
  | .queue e => (s.updEntry e fun x => { x with queue := x.queue.filter fun i => decide (i ≠ m) }).drainExit e

/-- WITHDRAW (R129): taken with CANCELLED, waiting while the reply queue is full, or taken with no effect. -/
def execWithdraw (m : Master) (t : Tag) (s : State) : Host.Outcome State Fault Refusal :=
  let s := s.quiet
  if s.refclkRunning && s.withdrawReady m t then
    match s.withdrawn m t with
    | some p => .next (s.cancel m p).took
    | none => .next s.took
  else .next s

end Sys2Proof.Machine
end

