-- ==== Sys2Proof/Machine/Pins.lean ====
section
/-! DEFINITION. The events of RESET_N and REFCLK. -/

namespace Sys2Proof.Machine

/-- Every piece of the part's state at its hard reset value, RESET_N low; what lies outside the part stays: REFCLK, the
level of MCS_N, the commands that wait, and the model's draw counter (R155, R152). -/
def State.hardReset (s : State) : State :=
  { State.reset with
    link := { Link.reset with mcsLow := s.link.mcsLow }
    refclkRunning := s.refclkRunning
    resetLow := true
    inReset := true
    draws := s.draws
    pending := s.pending }

/-- HARD_RESET (R155): taken asynchronously, with REFCLK running or not. -/
def execHardReset (s : State) : Host.Outcome State Fault Refusal := .next s.hardReset.took

/-- A REFCLK edge sees the level of RESET_N: the part leaves reset when it is high (R156). -/
def State.seeRelease (s : State) : State := { s with inReset := s.inReset && s.resetLow }

/-- RESET_RELEASE (R156): RESET_N rises, and is seen high at a REFCLK edge. There is no edge while REFCLK is stopped: then
only the pin rises, and REFCLK_RUNS_AGAIN brings the edge. With nothing to release the event does not come about (log entry
13). -/
def execResetRelease (s : State) : Host.Outcome State Fault Refusal :=
  let s := { s.quiet with resetLow := false }
  if s.refclkRunning && s.inReset then .next s.seeRelease.took else .next s

/-- REFCLK_STOPS (R154). -/
def execRefclkStops (s : State) : Host.Outcome State Fault Refusal := .next { s.quiet with refclkRunning := false }.took

/-- REFCLK_RUNS_AGAIN (R154): the timebase resumes from the values it held, and the first edge sees a RESET_N that rose
while REFCLK was stopped (R156; log entry 13). -/
def execRefclkRunsAgain (s : State) : Host.Outcome State Fault Refusal :=
  .next { s.quiet with refclkRunning := true }.seeRelease.took

end Sys2Proof.Machine
end

