-- ==== Sys2Proof/Machine/Timebase.lean ====
section
/-! DEFINITION. The timebase: sample-period expiries, tenure units, tenure expiries, and one REFCLK period. -/

namespace Sys2Proof.Machine

/-- The filters, comparators and count of an entry at an expiry (R78 to R84); its state is decided afterwards. -/
def Entry.sampled (x : Entry) (w : Window) : Entry :=
  let t := target x.count
  let f := nextFast w.decay x.fast t
  let v := if x.serving && w.autoGate then x.slow else nextSlow x.slow t
  { x with fast := f, slow := v, warm := warmOf w.th f v, hot := hotOf w.th w.hy x.hot f v, count := 0 }

/-- The entry is retired: F 0 and S 0 after the filters, and the count read was 0 (R89). -/
def Entry.retires (before after : Entry) : Bool :=
  decide (after.fast = 0) && decide (after.slow = 0) && decide (before.count = 0)

/-- A WATCH entry whose HOT is set enters QUEUED (R86, R35). -/
def State.enterQueued (s : State) (e : EntryIx) : State :=
  let g := (s.entry e).granule
  let s := s.updEntry e fun x => { x with state := .queued }
  let s := s.clearReservations fun m => decide ((s.ctx m).reservation = some g)
  let s := s.disarmGranule g
  let s := s.hazardToQueue e fun _ => true
  (s.notify (.granuleHot e g)).attemptGrant e

/-- A QUEUED entry whose HOT is clear leaves QUEUED: to DRAIN with a holder or waiters, else to WATCH with
GRANULE_COOL (R87). -/
def State.leaveQueued (s : State) (e : EntryIx) : State :=
  if (s.entry e).holder.isSome || !(s.entry e).queue.isEmpty then s.updEntry e fun x => { x with state := .drain }
  else (s.updEntry e fun x => { x with state := .watch }).notify (.granuleCool e (s.entry e).granule)

/-- The processing of one entry at a sample-period expiry (R78 to R89). -/
def State.processEntry (s : State) (e : EntryIx) : State :=
  let x := s.entry e
  let y := x.sampled (s.window x.granule.window)
  let s' := s.updEntry e fun _ => y
  match x.state with
  | .free => s
  | .watch =>
    if y.hot then s'.enterQueued e
    else if x.retires y then s.updEntry e fun _ => Entry.free
    else s'
  | .queued => if y.hot then s' else s'.leaveQueued e
  | .drain => if y.hot then s'.updEntry e fun z => { z with state := .queued } else s'

/-- A sample-period expiry: every non-FREE entry in index order (R77), the sample timer back to 0, and the next period
as long as the stored sample code says (R154, R12). A CONTROL write of the same moment may still change that length
(State.writeControl). -/
def State.expire (s : State) : State :=
  entryIxs.foldl State.processEntry
    { s with sampleTimer := 0, sampleLength := Config.samplePeriod s.sampleCode, atExpiry := true }

/-- The tenure expiry of an entry (R97): the holder is released, TENURE_EXPIRED is handed over, then the grant is
attempted and a DRAIN exit may follow. An entry without a holder is left as it is. -/
def State.expireTenure (s : State) (e : EntryIx) : State :=
  match (s.entry e).holder with
  | none => s
  | some m => ((s.endHolding e).notify (.tenureExpired m e (s.entry e).granule.base)).settle e

/-- One tenure unit brings the tenure remaining of the entry's holder to 0 (R93, R96). -/
def Entry.expiring (x : Entry) : Bool := x.holder.isSome && decide (x.tenure ≤ 1)

/-- An entry put in its place by rank, after those of the same rank. -/
def insertByRank (rank : EntryIx → Nat) (e : EntryIx) (l : List EntryIx) : List EntryIx :=
  match l with
  | [] => [e]
  | x :: rest => if rank e < rank x then e :: x :: rest else x :: insertByRank rank e rest

/-- Entries in rising rank. -/
def orderByRank (rank : EntryIx → Nat) (l : List EntryIx) : List EntryIx :=
  l.foldl (fun acc e => insertByRank rank e acc) []

/-- A tenure unit (R96): the tenure remaining of each entry with a holder is decreased by one, and the entries at which
it becomes 0 expire, in the order of a free value (log entry 6). The unit counter returns to 0 (R154). -/
def State.unit (s : State) : State :=
  let due := orderByRank (Config.expiryRank s.draws) (entryIxs.filter fun e => (s.entry e).expiring)
  let s := s.mapEntries fun _ x => if x.holder.isSome then { x with tenure := x.tenure - 1 } else x
  due.foldl State.expireTenure { s with unitCounter := 0, draws := s.draws + 1 }

/-- SAMPLE_PERIOD_EXPIRY (R77): the sample timer has reached the length of the running period (log entry 4). -/
def execSamplePeriodExpiry (s : State) : Host.Outcome State Fault Refusal :=
  let s := s.quiet
  if s.live then .next s.expire.took else .next s

/-- TENURE_UNIT (R96): the unit counter has reached 64 (log entry 4). -/
def execTenureUnit (s : State) : Host.Outcome State Fault Refusal :=
  let s := s.quiet
  if s.live then .next s.unit.took else .next s

/-- TENURE_EXPIRY (R97): a tenure unit reaches this entry and brings its tenure remaining to 0. It does not come about
for an entry without a holder, or with more than one unit left (log entry 5). -/
def execTenureExpiry (e : EntryIx) (s : State) : Host.Outcome State Fault Refusal :=
  let s := s.quiet
  if s.live && (s.entry e).expiring then .next (s.expireTenure e).took else .next s

/-- One REFCLK period of the timebase (R154): both counters count, and what they reach is taken; when both events fall
on one edge, in the order of a free value (log entry 7). The moment of an earlier expiry is over. Nothing counts while REFCLK is stopped or RESET_N asserted. -/
def State.tick (s : State) : State :=
  let s := s.quiet
  if s.live then
    let sample := decide (s.sampleLength ≤ s.sampleTimer + 1)
    let unit := decide (Config.unitPeriod ≤ s.unitCounter + 1)
    let s := { s with sampleTimer := s.sampleTimer + 1, unitCounter := s.unitCounter + 1, atExpiry := false }
    if sample && unit then
      let first := Config.unitFirst s.draws
      let s := { s with draws := s.draws + 1 }
      if first then s.unit.expire else s.expire.unit
    else if sample then s.expire
    else if unit then s.unit
    else s
  else s

end Sys2Proof.Machine
end

