-- ==== Sys2Proof/Machine/Dispatch.lean ====
section
/-! DEFINITION. One arm per command: each calls its meaning. -/

namespace Sys2Proof.Machine

def exec (i : Instr) (s : State) : Host.Outcome State Fault Refusal :=
  match i with
  | .linkedRead m t k a z farFree => Sys2Proof.Machine.execLinkedRead m t k a z farFree s
  | .conditionalWrite m t k a z d b farFree => Sys2Proof.Machine.execConditionalWrite m t k a z d b farFree s
  | .plainRead m t a z farFree => Sys2Proof.Machine.execPlainRead m t a z farFree s
  | .plainWrite m t a z d b farFree => Sys2Proof.Machine.execPlainWrite m t a z d b farFree s
  | .withdraw m t => Sys2Proof.Machine.execWithdraw m t s
  | .farResponse m t st d replyReady => Sys2Proof.Machine.execFarResponse m t st d replyReady s
  | .replyQueueSend => Sys2Proof.Machine.execReplyQueueSend s
  | .releasedReadForwarding => Sys2Proof.Machine.execReleasedReadForwarding s
  | .samplePeriodExpiry => Sys2Proof.Machine.execSamplePeriodExpiry s
  | .tenureUnit => Sys2Proof.Machine.execTenureUnit s
  | .tenureExpiry e => Sys2Proof.Machine.execTenureExpiry e s
  | .hardReset => Sys2Proof.Machine.execHardReset s
  | .resetRelease => Sys2Proof.Machine.execResetRelease s
  | .readRegister a f => Sys2Proof.Machine.execReadRegister a f s
  | .writeRegister a v f => Sys2Proof.Machine.execWriteRegister a v f s
  | .writeControl v f => Sys2Proof.Machine.execWriteControl v f s
  | .enableSet w upper f => Sys2Proof.Machine.execEnableSet w upper f s
  | .enableClear w upper f => Sys2Proof.Machine.execEnableClear w upper f s
  | .readEntry x f => Sys2Proof.Machine.execReadEntry x f s
  | .readContext x f => Sys2Proof.Machine.execReadContext x f s
  | .takeNotice f => Sys2Proof.Machine.execTakeNotice f s
  | .readStatus f => Sys2Proof.Machine.execReadStatus f s
  | .clearAll f => Sys2Proof.Machine.execClearAll f s
  | .releaseHolder x f => Sys2Proof.Machine.execReleaseHolder x f s
  | .unknownCommand c f => Sys2Proof.Machine.execUnknownCommand c f s
  | .shortFrame bits => Sys2Proof.Machine.execShortFrame bits s
  | .refclkStops => Sys2Proof.Machine.execRefclkStops s
  | .refclkRunsAgain => Sys2Proof.Machine.execRefclkRunsAgain s

end Sys2Proof.Machine
end

