-- ==== Sys2Proof/Machine/Channels.lean ====
section
/-! DEFINITION. What the part presents on its sending channels (R153): valid is high when there is a record. The ready
outputs of its receiving channels are `State.requestReady`, `State.withdrawReady` and `State.farResponseReady`. -/

namespace Sys2Proof.Machine

/-- The record presented on the far request channel at this edge, or none with valid low (R153): low in reset (R131,
R155); the arbiter's choice while a released read waits, and none while none may be forwarded; otherwise the request at the
head of the near request channel, when it would be forwarded once the channel is free (R124). -/
def State.farRequestPresented (s : State) (head : Option Request) : Option FarRequest :=
  if s.inReset then none
  else if s.released.isEmpty then
    (head.filter fun r => (s.dispose r).forwards && s.requestReady (s.dispose r) true).map Request.toFar
  else s.arbiter.map Released.toFar

/-- The record presented on the near reply channel at this edge, or none with valid low (R153): low in reset (R131, R155);
the oldest queued reply; with an empty queue the reply to the far response that is offered (R126). -/
def State.nearReplyPresented (s : State) (offered : Option FarResponse) : Option NearReply :=
  if s.inReset then none
  else
    match s.replies with
    | r :: _ => some r.toNear
    | [] => offered.map s.replyTo

end Sys2Proof.Machine
end

