-- ==== Sys2Proof/Safety.lean ====
section
/-! DEFINITION. What holds of the part at every moment: the laws of the device and the facts about its records that the
spec states in prose, as predicates on a state. -/

namespace Sys2Proof.Safety

open Sys2Proof.Machine

/-- The record fields of a window are legal (R1): size code 0 to 18, base a multiple of 4 KiB, tenure 1 to 255; and an
enabled window passed the alignment and hysteresis checks (R8, R9). -/
def WindowLegal (r : Window) : Prop :=
  r.sizeCode.toNat ≤ 18 ∧ r.base.toNat % 4096 = 0 ∧ r.tenure ≠ 0#8 ∧
    (r.enable = true → r.alignedBase = true ∧ r.hysteresisOk = true)

/-- The window table is legal: every record is, and two enabled windows share no byte (R1, R9, R11). -/
def TableLegal (s : State) : Prop :=
  (∀ w, WindowLegal (s.window w)) ∧
    ∀ w v, w ≠ v → (s.window w).enable = true → (s.window v).enable = true → (s.window w).overlaps (s.window v) = false

/-- Law 1 (R20): an armed reservation lies in an ACTIVE window. -/
def ReservationsActive (s : State) : Prop :=
  ∀ m, (s.ctx m).reservation.all (fun g => s.active g.window) = true

/-- Every parked read, and every released read that may still join the flight list, lies in an ACTIVE window (R13, R37). -/
def ReadsActive (s : State) : Prop :=
  (∀ m, (s.ctx m).parked.all (fun p => s.active p.granule.window) = true) ∧
    ∀ r ∈ s.released, r.mode ≠ .plain → s.active r.granule.window = true

/-- The parked read of a master waits in the grant queue of an entry, on the entry's granule. -/
def waitsIn (s : State) (m : Master) (e : EntryIx) : Bool :=
  (s.ctx m).parked.any fun p => decide (p.reason = .queue e) && decide (p.granule = (s.entry e).granule)

/-- Law 2, grant queues (R20, R92): no queue holds a master twice, its masters have parked reads with reason QUEUE that
name the entry, on its granule, and every such parked read stands in that queue. -/
def QueuesMatch (s : State) : Prop :=
  ∀ e, (s.entry e).queue.Nodup ∧
    (∀ m ∈ (s.entry e).queue, waitsIn s m e = true) ∧
    ∀ m, (s.ctx m).parked.any (fun p => decide (p.reason = .queue e)) = true → m ∈ (s.entry e).queue

/-- Law 2, hazard list (R62): no master twice, and its masters are exactly those with a parked read of reason HAZARD. -/
def HazardMatches (s : State) : Prop :=
  s.hazard.Nodup ∧ ∀ m, m ∈ s.hazard ↔ (s.ctx m).parked.any (fun p => decide (p.reason = .hazard)) = true

/-- The holder of an entry and the holdership of its master always name each other (R36, R93). -/
def HoldersMatch (s : State) : Prop :=
  ∀ e m, (s.entry e).holder = some m ↔ (s.ctx m).holdership = some e

/-- A master with a parked read holds no entry, but for a holder's hazard re-read on the granule it holds (R23, R27,
R100). A master waiting in a grant queue is therefore not the holder of any entry (Law 2, R20). -/
def ParkedHoldsOwn (s : State) : Prop :=
  ∀ m e, (s.ctx m).holdership = some e →
    (s.ctx m).parked.all (fun p => decide (p.reason = .hazard) && decide (p.granule = (s.entry e).granule)) = true

/-- A master with a parked read has no reservation and no released read of mode ARM (R20, R23). -/
def ParkedUnarmed (s : State) : Prop :=
  ∀ m, (s.ctx m).parked.isSome = true →
    (s.ctx m).reservation = none ∧ ∀ r ∈ s.released, r.master = m → r.arms = false

/-- Law 4 (R20): while an entry is QUEUED or DRAIN, no master but its holder has an armed reservation on its granule. -/
def OnlyHolderReserves (s : State) : Prop :=
  ∀ e m, (s.entry e).serving = true → (s.ctx m).reservation = some (s.entry e).granule → (s.entry e).holder = some m

/-- A released read of mode ARM never waits to arm a granule in QUEUED or DRAIN for a master that does not hold it (R63). -/
def OnlyHolderWillArm (s : State) : Prop :=
  ∀ e, (s.entry e).serving = true → ∀ r ∈ s.released, r.arms = true → r.granule = (s.entry e).granule →
    (s.entry e).holder = some r.master ∧ r.holderEntry = some e

/-- A hazard read belongs to a master that holds its granule's entry, or lies on a granule not in queued operation (R63). -/
def HazardOpenOrHeld (s : State) : Prop :=
  ∀ e m, (s.entry e).serving = true →
    (s.ctx m).parked.any (fun p => decide (p.reason = .hazard) && decide (p.granule = (s.entry e).granule)) = true →
    (s.entry e).holder = some m

/-- A holder-entry, of an LREAD entry or of a released read, names a holdership that its master still has (R18, R57). -/
def HolderEntriesCurrent (s : State) : Prop :=
  (∀ f ∈ s.flight, f.holderEntry.all (fun e => decide ((s.entry e).holder = some f.master)) = true) ∧
    ∀ r ∈ s.released, r.holderEntry.all (fun e =>
      decide ((s.entry e).holder = some r.master) && decide (r.granule = (s.entry e).granule)) = true

/-- An armed mark stands only with its master's reservation, on the entry's granule (R29). -/
def MarksMatch (s : State) : Prop :=
  ∀ f ∈ s.flight, f.armed = true → (s.ctx f.master).reservation.any (fun g => decide (g.base = f.range.first)) = true

/-- At most one LREAD entry of each master has its armed mark set (R29). -/
def OneMarkEach (s : State) : Prop :=
  s.flight.Pairwise fun f g => f.armed = true → g.armed = true → f.master ≠ g.master

/-- Law 5 (R72): no two non-FREE entries track the same granule, and every non-FREE entry's granule lies in an ACTIVE
window that allows queued mode. -/
def EntriesTrack (s : State) : Prop :=
  (∀ e f, (s.entry e).state ≠ .free → (s.entry f).state ≠ .free → (s.entry e).granule = (s.entry f).granule → e = f) ∧
    ∀ e, (s.entry e).state ≠ .free →
      s.active (s.entry e).granule.window = true ∧ (s.window (s.entry e).granule.window).queuedAllowed = true

/-- Law 6, kept ready (R65): no write in flight covers the granule of a released read that would join the flight list. -/
def ReleasedUncovered (s : State) : Prop :=
  ∀ r ∈ s.released, r.mode ≠ .plain → s.covered r.granule = false

/-- Law 10 and the table of R71: a FREE entry has the FREE values, a WATCH entry has no holder, an empty queue and HOT
clear, a QUEUED entry has HOT set and a DRAIN entry has it clear. -/
def StatesMatch (s : State) : Prop :=
  ∀ e, ((s.entry e).state = .free → s.entry e = Entry.free) ∧
    ((s.entry e).state = .watch → (s.entry e).holder = none ∧ (s.entry e).queue = [] ∧ (s.entry e).hot = false) ∧
    ((s.entry e).state = .queued → (s.entry e).hot = true) ∧
    ((s.entry e).state = .drain → (s.entry e).hot = false)

/-- The tenure remaining is 1 to 255 while the entry has a holder, and 0 while it has none (R93). -/
def TenureMatches (s : State) : Prop :=
  ∀ e, ((s.entry e).holder = none → (s.entry e).tenure = 0) ∧
    ((s.entry e).holder ≠ none → 1 ≤ (s.entry e).tenure ∧ (s.entry e).tenure ≤ 255)

/-- An entry in DRAIN has a holder or waiters: without both it has taken the DRAIN exit (R102). -/
def DrainServes (s : State) : Prop :=
  ∀ e, (s.entry e).state = .drain → (s.entry e).holder ≠ none ∨ (s.entry e).queue ≠ []

/-- The records of the window table, the reservation file, the lists, the arbiter and the contention table agree: the
invariant that holds Laws 1, 2, 4, 5, 6 and 10 together. -/
structure Coherent (s : State) : Prop where
  table : TableLegal s
  law1 : ReservationsActive s
  reads : ReadsActive s
  queues : QueuesMatch s
  hazards : HazardMatches s
  holders : HoldersMatch s
  waiters : ParkedHoldsOwn s
  unarmed : ParkedUnarmed s
  law4 : OnlyHolderReserves s
  arming : OnlyHolderWillArm s
  rereads : HazardOpenOrHeld s
  named : HolderEntriesCurrent s
  marks : MarksMatch s
  oneMark : OneMarkEach s
  law5 : EntriesTrack s
  law6 : ReleasedUncovered s
  law10 : StatesMatch s
  tenures : TenureMatches s
  drains : DrainServes s

/-- A waiting master, of a grant queue without holder or of the hazard list, waits for a write in flight on its granule
(R63, R94): no waiter is forgotten. -/
def WaitersCovered (s : State) : Prop :=
  (∀ e, (s.entry e).queue ≠ [] → (s.entry e).holder = none → s.covered (s.entry e).granule = true) ∧
    ∀ m ∈ s.hazard, (s.ctx m).parked.all (fun p => s.covered p.granule) = true

/-- The tags that the flight list, the arbiter and the master contexts hold. -/
def heldTags (s : State) : List (Master × Tag) :=
  s.flight.map (fun f => (f.master, f.tag)) ++ s.released.map (fun r => (r.master, r.tag))
    ++ masters.filterMap fun m => (s.ctx m).parked.map fun p => (m, p.tag)

/-- No two records that hold a tag hold the same master and tag (R55, R118, R123). -/
def TagsDistinct (s : State) : Prop := (heldTags s).Nodup

/-- Law 7 for the lists that are bounded by their own tests (R55, R125, R136). -/
def ListsBounded (s : State) : Prop :=
  s.flight.length ≤ 24 ∧ s.replies.length ≤ 4 ∧ s.notices.length ≤ 16

/-- Law 9, first part (R81), and the period count (R70). -/
def FiltersBounded (s : State) : Prop :=
  ∀ e, (s.entry e).fast ≤ 61440 ∧ (s.entry e).slow ≤ 61440 ∧ (s.entry e).count ≤ 15

/-- The reply queue holds only replies the part makes itself (R125). -/
def RepliesOwn (s : State) : Prop :=
  ∀ r ∈ s.replies, r.status = .seqerr ∨ r.status = .exfail ∨ r.status = .cancelled

/-- At most one UNTRACKED notice waits (R137). -/
def UntrackedOnce (s : State) : Prop := (s.notices.filter Notice.isUntracked).length ≤ 1

/-- While the part is held in reset every piece of state is at its hard reset value and the link is in IDLE with REFUSED
clear (R131, R152, R155, R156). -/
def ResetHolds (s : State) : Prop :=
  s.inReset = true →
    s = { s.hardReset with resetLow := s.resetLow, out := s.out, link := s.link } ∧
      s.link.phase = .idle ∧ s.link.refused = false

/-- The part is held in reset while RESET_N is low, and longer only while there is no REFCLK edge to see its rise (R155,
R156; when that edge comes is log entry 13). -/
def ResetFollowsPin (s : State) : Prop :=
  (s.resetLow = true → s.inReset = true) ∧ (s.inReset = true → s.resetLow = false → s.refclkRunning = false)

/-- The frame state follows the frame: with MCS_N high the link is in IDLE; data bytes are held only from DATA on, and
fewer than four while DATA lasts; bytes wait to be returned in RETURN (R144). -/
def FrameMatches (s : State) : Prop :=
  (s.link.mcsLow = false → s.link.phase = .idle) ∧
    (s.link.phase = .command ∨ s.link.phase = .argument → s.link.dataIn = []) ∧
    (s.link.phase = .data → s.link.dataIn.length < 4) ∧
    (s.link.phase = .ret → s.link.shiftOut ≠ [])

/-- The notice a TAKE NOTICE frame returns is still the head while the frame is open, so the queue is not empty (R138). -/
def HeadStays (s : State) : Prop :=
  s.link.phase = .ret → s.link.command = some .takeNotice → s.link.headTaken = true → s.notices ≠ []

/-- The counters of the timebase stay below what they count to, and the sample timer stands at 0 for as long as the moment
of an expiry lasts (R154; the mark of that moment is the model's own, log entry 20). -/
def TimebaseBounded (s : State) : Prop :=
  s.sampleTimer < s.sampleLength ∧ s.unitCounter < 64 ∧ (s.atExpiry = true → s.sampleTimer = 0)

end Sys2Proof.Safety
end

