-- ==== Sys2Proof/Certificates/Slice0/Obligations.lean ====
section
/-! DEFINITION. The statements about the TJ-1640 for the provers, and the few words they share. -/

namespace Sys2Proof.Claim

open Sys2Proof Sys2Proof.Machine

/-- A command was taken, and this moved on the far request and near reply channels. -/
def moved (far : Option FarRequest) (near : Option NearReply) : Out :=
  { taken := true, farRequest := far, nearReply := near }

/-- The four rows that offer a request at the near port: the request, and the level of the far request channel's ready. -/
def requestOf (c : Instr) : Option (Request × Bool) :=
  match c with
  | .linkedRead m t k a z far => some (linkedRequest m t k a z, far)
  | .conditionalWrite m t k a z d b far => some (conditionalRequest m t k a z d b, far)
  | .plainRead m t a z far => some (plainReadRequest m t a z, far)
  | .plainWrite m t a z d b far => some (plainWriteRequest m t a z d b, far)
  | _ => none

/-- The table of R118: when a request fails each check. -/
def fails (s : State) (r : Request) (why : Reason) : Prop :=
  match why with
  | .misaligned => ¬ 2 ^ r.size.val ∣ r.address.toNat
  | .badSize => r.size = 7
  | .badAttribute => (r.attr = .linked ∧ r.kind = .write) ∨ (r.attr = .conditional ∧ r.kind = .read)
  | .splitGranule => r.attr ≠ .plain ∧ ∃ w, s.classify r.address = some w ∧ s.granuleBytes w < 2 ^ r.size.val
  | .parkedBusy => r.attr = .linked ∧ ∃ p, (s.ctx r.master).parked = some p
  | .dupTag =>
    (∃ f ∈ s.flight, f.master = r.master ∧ f.tag = r.tag) ∨ (∃ p, (s.ctx r.master).parked = some p ∧ p.tag = r.tag) ∨
      ∃ q ∈ s.released, q.master = r.master ∧ q.tag = r.tag

/-- The near port can take a request that is not forwarded: the part is live and the reply queue has room (R120). -/
def portOpen (s : State) : Prop := s.live = true ∧ s.replies.length < 4

/-- The near port can take a request that is forwarded without an entry: no released read waits either (R120). -/
def farOpen (s : State) : Prop := portOpen s ∧ s.released = []

/-- The near port can take a request that joins the flight list (R120). -/
def listOpen (s : State) : Prop := farOpen s ∧ s.flight.length < 24

/-- The granule is untracked, or its entry is in WATCH (R24). -/
def inWatch (s : State) (g : Granule) : Prop :=
  ∀ e, (s.entry e).state ≠ .free → (s.entry e).granule = g → (s.entry e).state = .watch

/-- The entry, and no other, tracks the granule (R24, R72). -/
def tracks (s : State) (e : EntryIx) (g : Granule) : Prop :=
  (s.entry e).state ≠ .free ∧ (s.entry e).granule = g ∧
    ∀ i, i ≠ e → (s.entry i).state ≠ .free → (s.entry i).granule ≠ g

/-- The master is the holder of no entry. -/
def holdsNone (s : State) (m : Master) : Prop := (s.ctx m).holdership = none ∧ ∀ e, (s.entry e).holder ≠ some m

/-- The master is the holder of the entry and of no other. -/
def holdsOnly (s : State) (m : Master) (e : EntryIx) : Prop :=
  (s.ctx m).holdership = some e ∧ ∀ i, (s.entry i).holder = some m ↔ i = e

/-- The LREAD entries of a master lose their armed marks (R29). -/
def unmarked (m : Master) (l : List Flight) : List Flight := l.map (Flight.unmark fun i => decide (i = m))

/-- The waiting reads of mode ARM of a master become DISARMED (R31). -/
def disarmed (m : Master) (l : List Released) : List Released := l.map (Released.disarm fun r => decide (r.master = m))

/-- The holdership of a master on an entry leaves its LREAD entries (R57). -/
def unnamed (m : Master) (e : EntryIx) (l : List Flight) : List Flight := l.map (Flight.dropHolder m e)

/-- The marks of all masters whose reservation lies in a range are cleared (R29, R33). -/
def unmarkedIn (s : State) (r : GranuleRange) (l : List Flight) : List Flight :=
  l.map (Flight.unmark fun i => (s.ctx i).reservation.any fun g => s.inRange r g)

/-- What a context keeps when a write is forwarded: a reservation on a granule in the write's range is cleared (R33). -/
def afterWrite (s : State) (r : GranuleRange) (c : Context) : Context :=
  { c with reservation := c.reservation.filter fun g => !s.inRange r g }

/-- A linked read held back in its master's context (R26, R28). -/
def parkedAs (t : Tag) (a : Addr) (z : SizeCode) (g : Granule) (why : ParkReason) : Parked :=
  { tag := t, address := a, size := z, granule := g, reason := why }

/-- The far request of a read: no data, no strobes (R116). -/
def farRead (m : Master) (t : Tag) (a : Addr) (z : SizeCode) : FarRequest :=
  { master := m, tag := t, kind := .read, address := a, size := z, data := 0#512, strobes := 0#64 }

/-- The far request of a write: its data and strobes unchanged (R116). -/
def farWrite (m : Master) (t : Tag) (a : Addr) (z : SizeCode) (d : Data) (b : Strobes) : FarRequest :=
  { master := m, tag := t, kind := .write, address := a, size := z, data := d, strobes := b }

/-- A near reply with all-zero data (R117). -/
def zeroReply (m : Master) (t : Tag) (st : ReplyStatus) : NearReply :=
  { master := m, tag := t, status := st, data := 0#512 }

/-- The range of one granule alone (R56). -/
def oneGranule (s : State) (g : Granule) : GranuleRange :=
  { first := g.base, last := g.base, size := s.granuleBytes g.window }

/-- The one flight-list entry of a master and tag that a far response meets first (R58). -/
def firstOf (m : Master) (t : Tag) (before : List Flight) (f : Flight) : Prop :=
  f.master = m ∧ f.tag = t ∧ ∀ g ∈ before, ¬ (g.master = m ∧ g.tag = t)

/-- The granule of an entry is one that a removed write reached, and it would now be granted (R60, R94). -/
def mayGrant (s : State) (r : GranuleRange) (e : EntryIx) : Prop :=
  s.inRange r (s.entry e).granule = true ∧ (s.entry e).serving = true ∧ (s.entry e).holder = none ∧ (s.entry e).queue ≠ []

/-- The steps of R78 to R84 for one entry: `x` before, `y` after, under the window record `w`. Quotients are rational
and rounded up to whole numbers; the bounds are taken over the integers, without saturation. -/
def sampledTo (w : Window) (x y : Entry) : Prop :=
  let T := x.count * 4096
  (y.fast = if x.fast ≤ T then x.fast + ⌈((T - x.fast : ℕ) : ℚ) / 2⌉₊
    else x.fast - ⌈((x.fast - T : ℕ) : ℚ) / 2 ^ (w.decay.toNat + 2)⌉₊) ∧
  (y.slow = if (x.state = .queued ∨ x.state = .drain) ∧ w.autoGate = true then x.slow
    else if x.slow ≤ T then x.slow + ⌈((T - x.slow : ℕ) : ℚ) / 256⌉₊
    else x.slow - ⌈((x.slow - T : ℕ) : ℚ) / 256⌉₊) ∧
  (y.warm = true ↔ y.fast > y.slow + w.th.toNat * 1024) ∧
  (y.hot = true ↔ if x.hot = true then ¬ ((y.fast : ℤ) < y.slow + w.th.toNat * 1024 - w.hy.toNat * 512)
    else (y.fast : ℤ) > y.slow + w.th.toNat * 1024 + w.hy.toNat * 512) ∧
  y.count = 0

/-- What the steps of R78 to R84 give for entry e at an expiry taken now. -/
def sampledNow (s : State) (e : EntryIx) : Entry := (s.entry e).sampled (s.window (s.entry e).granule.window)

/-- A WATCH entry retires: F and S are 0 after their steps, and the count read was 0 (R89). -/
def retiresNow (s : State) (e : EntryIx) : Prop :=
  (s.entry e).state = .watch ∧ (sampledNow s e).hot = false ∧ (sampledNow s e).fast = 0 ∧ (sampledNow s e).slow = 0 ∧
    (s.entry e).count = 0

/-- A tenure unit brings the entry's tenure remaining to 0 (R96). -/
def dueNow (s : State) (e : EntryIx) : Prop := (s.entry e).holder ≠ none ∧ (s.entry e).tenure ≤ 1

/-- A complete frame of n bytes. -/
def whole (n : Nat) : Frame := { starts := true, bytes := n, ends := true }

/-- The link can carry a frame whose bytes act: REFCLK runs and RESET_N is high. -/
def linkOpen (s : State) : Prop := s.refclkRunning = true ∧ s.inReset = false

/-- Two window records share at least one byte (R9). -/
def shareByte (r q : Window) : Prop :=
  ∃ b : Nat, (r.base.toNat ≤ b ∧ b < r.base.toNat + r.bytes) ∧ q.base.toNat ≤ b ∧ b < q.base.toNat + q.bytes

/-- The checks of R9 on a window that is to be enabled. -/
def enableChecks (s : State) (w : WindowIx) : Prop :=
  (s.window w).bytes ∣ (s.window w).base.toNat ∧
    ((s.window w).hy.toNat = 0 ∨ ¬ 2 * (s.window w).th.toNat ≤ (s.window w).hy.toNat) ∧
    ∀ i, i ≠ w → (s.window i).enable = true → ¬ shareByte (s.window i) (s.window w)

/-- What a context keeps when windows are dissolved: the parts that lie in other windows (R37). -/
def partsOutside (s : State) (p : WindowIx → Bool) (c : Context) : Context :=
  { reservation := c.reservation.filter fun g => !p g.window
    parked := c.parked.filter fun r => !p r.granule.window
    holdership := c.holdership.filter fun e => !p (s.entry e).granule.window }

/-- What an LREAD entry keeps when windows are dissolved: its mark while its master's reservation stays, its holder-entry
while the entry named stays (R57, R68). -/
def marksOutside (s : State) (p : WindowIx → Bool) (f : Flight) : Flight :=
  match f.kind with
  | .lread a h =>
    { f with kind := .lread (a && (partsOutside s p (s.ctx f.master)).reservation.isSome)
                            (h.filter fun e => !p (s.entry e).granule.window) }
  | _ => f

/-- The reads that the dissolution of windows releases, by master: every parked read in them, as mode PLAIN (R37). -/
def plainReads (s : State) (p : WindowIx → Bool) : List Released :=
  masters.filterMap fun m => ((s.ctx m).parked.filter fun r => p r.granule.window).map fun r => r.release m .plain

/-- The effect of window disable events for the chosen windows on the records outside the window table (R13, R37, R68,
R109): the parts in them are gone, their entries are FREE, and their reads wait at the arbiter as PLAIN. -/
def dissolved (s u : State) (p : WindowIx → Bool) : Prop :=
  (∀ m, u.ctx m = partsOutside s p (s.ctx m)) ∧
  (∀ e, u.entry e = if p (s.entry e).granule.window then Entry.free else s.entry e) ∧
  u.hazard = (s.hazard.filter fun m => (u.ctx m).parked.isSome) ∧
  u.flight = s.flight.map (marksOutside s p) ∧
  ∃ more, u.released = (s.released.map fun r => if p r.granule.window then { r with mode := .plain } else r) ++ more ∧
    more.Perm (plainReads s p)

/-- What an entry hands over at an expiry (R85): GRANULE_HOT where a WATCH entry turns hot, GRANULE_COOL where a QUEUED
entry without holder and waiters cools. -/
def expiryNotice (s : State) (e : EntryIx) : Option Notice :=
  match (s.entry e).state, (sampledNow s e).hot with
  | .watch, true => some (.granuleHot e (s.entry e).granule)
  | .queued, false =>
    if (s.entry e).holder = none ∧ (s.entry e).queue = [] then some (.granuleCool e (s.entry e).granule) else none
  | _, _ => none

/-- The notices of an expiry handed over in index order (R77), by `State.notify`, whose discard mark is log entry 23's. -/
def expiryNotices (s : State) : State := (entryIxs.filterMap (expiryNotice s)).foldl State.notify s

/-- A WATCH entry turns hot at an expiry taken now (R86). -/
def turnsHot (s : State) (e : EntryIx) : Prop := (s.entry e).state = .watch ∧ (sampledNow s e).hot = true

/-- The WATCH entry of a granule that turns hot at an expiry taken now. -/
def hotEntry (s : State) (g : Granule) : Option EntryIx :=
  entryIxs.find? fun e => decide ((s.entry e).state = .watch) && (sampledNow s e).hot && decide ((s.entry e).granule = g)

/-- What a context keeps at an expiry: a reservation on a granule that turns hot is cleared, and a hazard read on it waits
in the queue of its entry (R35, R86). -/
def takenOver (s : State) (c : Context) : Context :=
  { reservation := c.reservation.filter fun g => (hotEntry s g).isNone
    parked := c.parked.map fun p =>
      match p.reason, hotEntry s p.granule with
      | .hazard, some e => { p with reason := .queue e }
      | _, _ => p
    holdership := c.holdership }

/-- Commanded tenure expiries of the entries of a list, one after the other (R96, R97). -/
def expiriesTaken (order : List EntryIx) (s u : State) : Prop :=
  match order with
  | [] => u = s
  | e :: rest => ∃ v, exec (.tenureExpiry e) s = .next v ∧ expiriesTaken rest v u

/-! The arbiter (R64, R124). -/

/-- A released read may be forwarded now: its mode is PLAIN, or a flight-list entry is free (R64, R124). -/
def mayGo (s : State) (r : Released) : Prop := r.mode = .plain ∨ s.flight.length < 24

/-- Of the reads that may be forwarded, r has the lowest master and was released first among that master's; `before` and
`after` are the reads released before and after it (R124). -/
def chosen (s : State) (before : List Released) (r : Released) (after : List Released) : Prop :=
  mayGo s r ∧ (∀ q ∈ before, mayGo s q → r.master < q.master) ∧ ∀ q ∈ after, mayGo s q → r.master ≤ q.master

/-! What a holder release does, from its parts (R99). -/

/-- A master's reservation is cleared, with its armed marks, and its waiting reads of mode ARM become DISARMED (R29, R31). -/
def unreserved (m : Master) (s : State) : State :=
  let v := s.updCtx m fun c => { c with reservation := none }
  { v with flight := unmarked m s.flight, released := disarmed m s.released }

/-- The holdership of a master on an entry ends (R99, R36): both records and the tenure; its reservation, if it lies on the
granule; its hazard re-read on the granule, which moves to the tail of the queue; its waiting read and its LREAD entries that
name the entry. -/
def letGo (m : Master) (e : EntryIx) (s : State) : State :=
  let g := (s.entry e).granule
  let onG := decide ((s.ctx m).reservation = some g)
  let back := (s.ctx m).parked.any fun p => decide (p.reason = .hazard) && decide (p.granule = g)
  let t := if onG then unreserved m s else s
  let v := t.updCtx m fun c =>
    { c with parked := c.parked.map (fun p => if back then { p with reason := .queue e } else p), holdership := none }
  let v := v.updEntry e fun x =>
    { x with holder := none, tenure := 0, queue := if back then x.queue ++ [m] else x.queue }
  { v with
    flight := unnamed m e t.flight
    hazard := if back then s.hazard.filter (fun i => decide (i ≠ m)) else s.hazard
    released := t.released.map (Released.disarm fun r => decide (r.master = m) && decide (r.mode = .arm (some e))) }

/-- The grant of an entry to a waiter (R95): it holds the entry for the window's tenure, and its read waits at the arbiter
to arm, naming the entry. -/
def grantedTo (k : Master) (rest : List Master) (e : EntryIx) (s : State) : State :=
  let v := s.updCtx k fun c => { c with parked := none, holdership := some e }
  let v := v.updEntry e fun x =>
    { x with holder := some k, tenure := (s.window x.granule.window).tenure.toNat, queue := rest }
  { v with released := s.released ++ ((s.ctx k).parked.map fun p => p.release k (.arm (some e))).toList }

/-- After the release of an entry in QUEUED or DRAIN (R99, R94, R102): with a waiter and no write in flight on the granule
the head is granted; with nobody waiting a DRAIN entry exits to WATCH with GRANULE_COOL; otherwise nothing more. -/
def settled (e : EntryIx) (s : State) : State :=
  match (s.entry e).queue with
  | k :: rest => if s.covered (s.entry e).granule then s else grantedTo k rest e s
  | [] =>
    if (s.entry e).state = .drain then
      (s.updEntry e fun x => { x with state := .watch }).notify (.granuleCool e (s.entry e).granule)
    else s

/-! What a failing conditional write does. -/

/-- A conditional write of a master on a granule fails: its master has no reservation on it, or the entry of the granule is
in QUEUED or DRAIN and the master is not its holder (R43). -/
def failsOn (s : State) (m : Master) (g : Granule) : Prop :=
  (s.ctx m).reservation ≠ some g ∨ ∃ e, tracks s e g ∧ (s.entry e).serving = true ∧ (s.entry e).holder ≠ some m

/-- An entry that starts for a granule at a contention event (R74, R75). -/
def startedFor (g : Granule) : Entry :=
  { state := .watch, granule := g, fast := 0, slow := 0, warm := false, hot := false, count := 1, holder := none,
    tenure := 0, queue := [] }

/-- The entry a replacement takes: of the WATCH entries with WARM clear the one of lowest F, and then of lowest index (R75). -/
def coldestWatch (s : State) (e : EntryIx) : Prop :=
  (s.entry e).state = .watch ∧ (s.entry e).warm = false ∧
    ∀ i, (s.entry i).state = .watch → (s.entry i).warm = false →
      (s.entry e).fast < (s.entry i).fast ∨ ((s.entry e).fast = (s.entry i).fast ∧ e ≤ i)

/-- A contention event on a granule takes s to v (R49, R73 to R76): not counted where queued mode is not allowed; counted on
the entry that tracks the granule, saturating at 15; otherwise taken by the FREE entry of lowest index, or by a replaced
entry, or untracked, with the notice UNTRACKED and no entry changed. -/
def counted (g : Granule) (s v : State) : Prop :=
  v = { s with contention := v.contention, notices := v.notices, overflow := v.overflow, discardMark := v.discardMark } ∧
  ((s.window g.window).queuedAllowed = false → v = s) ∧
  ((s.window g.window).queuedAllowed = true →
    (∀ e, tracks s e g → v = s.updEntry e fun x => { x with count := min (x.count + 1) 15 }) ∧
    ((∀ i, (s.entry i).state ≠ .free → (s.entry i).granule ≠ g) →
      (∀ e, (s.entry e).state = .free → (∀ i, i < e → (s.entry i).state ≠ .free) →
        v = s.updEntry e fun _ => startedFor g) ∧
      ((∀ i, (s.entry i).state ≠ .free) →
        (∀ e, coldestWatch s e → v = s.updEntry e fun _ => startedFor g) ∧
        ((∀ i, (s.entry i).state = .watch → (s.entry i).warm = true) → v = s.notify (.untracked g)))))

/-! Layouts of the management link, as numbers (09_management_link.md, Formats). -/

/-- A 32-bit number as four bytes, most significant first. -/
def bytesOf (n : Nat) : List Nat := [n / 16777216 % 256, n / 65536 % 256, n / 256 % 256, n % 256]

/-- The status byte: 1 in bit 7; ALERT (3), REFUSED (2), OVERFLOW (1), MON (0) (R143). ALERT: a notice waits or OVERFLOW is
set (R141). -/
def statusLayout (s : State) : Nat :=
  128 + 8 * (if s.notices ≠ [] ∨ s.overflow = true then 1 else 0) + 4 * s.link.refused.toNat + 2 * s.overflow.toNat
    + s.mon.toNat

/-- The register values. -/
def registerLayout (s : State) (r : Reg) : Nat :=
  match r with
  | .id => 0x4B164001
  | .control => s.mon.toNat + 16 * s.sampleCode.toNat + 65536 * s.mask.toNat
  | .base w => (s.window w).base.toNat
  | .shape w =>
    (s.window w).sizeCode.toNat + 256 * (s.window w).granuleCode.toNat + 4096 * (s.window w).queuedAllowed.toNat
      + 8192 * (s.window w).autoGate.toNat + 65536 * (s.window w).decay.toNat
  | .limits w => (s.window w).th.toNat + 256 * (s.window w).hy.toNat + 65536 * (s.window w).tenure.toNat
  | .enable w => (s.window w).enable.toNat

/-- The number of an entry's state. -/
def stateNumber (m : Mode) : Nat :=
  match m with
  | .free => 0
  | .watch => 1
  | .queued => 2
  | .drain => 3

/-- The entry record, the holder byte with bit 7 when a holder is present. -/
def entryLayout (x : Entry) : List Nat :=
  [64 * stateNumber x.state + 16 * x.granule.window.val + 8 * x.warm.toNat + 4 * x.hot.toNat] ++ bytesOf x.granule.base.toNat
    ++ [x.fast / 256 % 256, x.fast % 256, x.slow / 256 % 256, x.slow % 256, 16 * (x.count % 16),
        (match x.holder with | some m => 128 + m.val | none => 0), x.tenure % 256, x.queue.length % 256]
    ++ x.queue.map fun m => m.val

/-- The context record: an absent part shows zeros. -/
def contextLayout (c : Context) : List Nat :=
  let present := 128 * c.reservation.isSome.toNat + 64 * c.parked.isSome.toNat + 32 * c.holdership.isSome.toNat
  (match c.reservation with
    | some g => (present + g.window.val) :: bytesOf g.base.toNat
    | none => [present, 0, 0, 0, 0])
  ++ (match c.parked with
    | some p =>
      [32 * p.tag.val + 4 * p.size.val + p.granule.window.val,
        (match p.reason with | .hazard => 0 | .queue e => 128 + e.val)]
        ++ bytesOf p.address.toNat ++ bytesOf p.granule.base.toNat
    | none => [0, 0, 0, 0, 0, 0, 0, 0, 0, 0])
  ++ [match c.holdership with | some e => e.val | none => 0]

/-- The number of a refusal reason. -/
def reasonNumber (r : Reason) : Nat :=
  match r with
  | .misaligned => 1
  | .badSize => 2
  | .badAttribute => 3
  | .splitGranule => 4
  | .parkedBusy => 5
  | .dupTag => 6

/-- The notice record: an absent field shows zero. -/
def noticeLayout (n : Notice) : List Nat :=
  match n with
  | .granuleHot e g => [1, 0, e.val, g.window.val] ++ bytesOf g.base.toNat
  | .granuleCool e g => [2, 0, e.val, g.window.val] ++ bytesOf g.base.toNat
  | .tenureExpired m e a => [3, 16 * m.val, e.val, 0] ++ bytesOf a.toNat
  | .protocol m t a r => [4, 16 * m.val + t.val, 0, 16 * reasonNumber r] ++ bytesOf a.toNat
  | .untracked g => [5, 0, 0, g.window.val] ++ bytesOf g.base.toNat
  | .memoryError m t a => [6, 16 * m.val + t.val, 0, 0] ++ bytesOf a.toNat

/-- The bytes that MSO carried, as numbers. -/
def msoNumbers (s : State) : List Nat := s.link.mso.map BitVec.toNat

/-- How much of a frame a management command clocks. -/
def frameOf (c : Instr) : Option Frame :=
  match c with
  | .readRegister _ f => some f
  | .writeRegister _ _ f => some f
  | .writeControl _ f => some f
  | .enableSet _ _ f => some f
  | .enableClear _ _ f => some f
  | .readEntry _ f => some f
  | .readContext _ f => some f
  | .takeNotice f => some f
  | .readStatus f => some f
  | .clearAll f => some f
  | .releaseHolder _ f => some f
  | .unknownCommand _ f => some f
  | _ => none

end Sys2Proof.Claim

open Sys2Proof Sys2Proof.Machine Sys2Proof.Claim

/-! The queue of commands and the clock. -/

/-- A step runs the command at the front of the queue with the queue's rest. The one queue of commands, whose order is the
order in which events are taken, is the model's choice (log entry 1, DEDUCED). -/
def Obligations.StepRunsFrontCommand : Prop :=
  ∀ (c : Instr) (rest : List Instr) (s : State), s.pending = c :: rest → step s = exec c { s with pending := rest }

/-- With no command waiting, a step is one REFCLK period (R154; that an idle step is one period is the model's choice,
log entry 3): both counters count, and at their ends the expiry and the unit are taken, in either order when they fall
together (log entry 7); the moment of an earlier expiry is over (log entry 20). While REFCLK is stopped or RESET_N is
asserted nothing counts (R154, R155). -/
def Obligations.IdleStepCountsRefclk : Prop :=
  ∀ s : State, s.pending = [] →
    (s.refclkRunning = false ∨ s.inReset = true → step s = .next { s with out := Out.none }) ∧
    (s.refclkRunning = true → s.inReset = false →
      (s.sampleTimer + 1 < s.sampleLength → s.unitCounter + 1 < 64 →
        step s = .next { s with
          sampleTimer := s.sampleTimer + 1, unitCounter := s.unitCounter + 1, atExpiry := false, out := Out.none }) ∧
      (s.sampleLength ≤ s.sampleTimer + 1 → s.unitCounter + 1 < 64 →
        ∃ u, exec .samplePeriodExpiry { s with unitCounter := s.unitCounter + 1 } = .next u ∧
          step s = .next { u with out := Out.none }) ∧
      (s.sampleTimer + 1 < s.sampleLength → 64 ≤ s.unitCounter + 1 →
        ∃ u, exec .tenureUnit { s with sampleTimer := s.sampleTimer + 1, atExpiry := false } = .next u ∧
          step s = .next { u with out := Out.none }) ∧
      (s.sampleLength ≤ s.sampleTimer + 1 → 64 ≤ s.unitCounter + 1 →
        ∃ u v, step s = .next { v with out := Out.none } ∧
          ((exec .samplePeriodExpiry { s with draws := s.draws + 1 } = .next u ∧ exec .tenureUnit u = .next v) ∨
            (exec .tenureUnit { s with draws := s.draws + 1 } = .next u ∧ exec .samplePeriodExpiry u = .next v))))

/-- While REFCLK is stopped the part holds its state under every command but HARD_RESET and REFCLK_RUNS_AGAIN: only the
link still shifts, RESET_RELEASE raises no more than the pin, and no byte sets or clears REFUSED. A byte that completes takes the frame to IGNORE, and MSO carries zero
for the rest of the frame (R144, R154, R156). -/
def Obligations.StoppedClockHoldsState : Prop :=
  ∀ (c : Instr) (s : State), s.refclkRunning = false → c ≠ .hardReset → c ≠ .refclkRunsAgain →
    ∃ u, exec c s = .next u ∧
      u = { s with
        link := u.link, resetLow := if c = .resetRelease then false else s.resetLow, out := u.out } ∧
      u.link.refused = s.link.refused ∧
      u.out.farRequest = none ∧ u.out.nearReply = none ∧
      ∀ f, frameOf c = some f → s.inReset = false → f.ends = false → 1 ≤ f.bytes →
        (f.starts = true → u.link.phase = .ignore ∧
          msoNumbers u = statusLayout s :: List.replicate (f.bytes - 1) 0) ∧
        (f.starts = false → s.link.phase ≠ .idle → u.link.phase = .ignore)

/-- While the part is held in reset nothing changes and nothing is sent under any command but HARD_RESET and RESET_RELEASE;
only MCS_N and REFCLK, which lie outside the part, move, and when REFCLK runs again its edge ends a reset whose RESET_N has
risen meanwhile (R131, R152, R155, R156; that the edge comes with REFCLK_RUNS_AGAIN is the model's choice, log entry 13). -/
def Obligations.AssertedResetHoldsState : Prop :=
  ∀ (c : Instr) (s : State), s.inReset = true → s.link.phase = .idle → c ≠ .hardReset → c ≠ .resetRelease →
    ∃ u, exec c s = .next u ∧
      u = { s with
        refclkRunning := u.refclkRunning
        inReset := if c = .refclkRunsAgain then s.resetLow else true
        link := { s.link with mcsLow := u.link.mcsLow }
        out := u.out } ∧
      u.out.farRequest = none ∧ u.out.nearReply = none

/-! The near port. -/

/-- The first check that fails, in the order of R118, decides the reason; a request that fails none is not refused. -/
def Obligations.RefusalFollowsCheckOrder : Prop :=
  ∀ (s : State) (r : Request),
    (∀ why, s.refusal r = some why ↔ fails s r why ∧ ∀ e : Reason, e.code.toNat < why.code.toNat → ¬ fails s r e) ∧
    (s.refusal r = none ↔ ∀ why, ¬ fails s r why)

/-- A refused request, of whatever row, is accepted at once; it joins SEQERR to the reply queue, hands over PROTOCOL, and
changes nothing else (R119). -/
def Obligations.RefusedRequestOnlyReports : Prop :=
  ∀ (c : Instr) (r : Request) (far : Bool) (why : Reason) (s : State),
    requestOf c = some (r, far) → portOpen s → s.refusal r = some why →
    exec c s = .next { s.notify (.protocol r.master r.tag r.address why) with
      replies := s.replies ++ [{ master := r.master, tag := r.tag, status := .seqerr }], out := moved none none }

/-- What the head request needs (R120, R61, R64): with a full reply queue none is accepted; none is forwarded while the far
request channel is occupied or a released read waits; none joins a full flight list; and one that is not accepted
changes nothing. It is accepted exactly at an edge at which near request ready is high, and what the far channel then takes
is the record presented on it (R153); in reset ready and valid are low (R155). -/
def Obligations.RequestWaitsForWhatItNeeds : Prop :=
  ∀ (c : Instr) (r : Request) (far : Bool) (s : State), requestOf c = some (r, far) →
    ∃ u, exec c s = .next u ∧
      (u.out.taken = true → portOpen s) ∧
      (u.out.farRequest ≠ none → far = true ∧ s.released = []) ∧
      (s.flight.length < u.flight.length → s.flight.length < 24) ∧
      (u.out.taken = false → u = { s with out := Out.none }) ∧
      (u.out.taken = true ↔ s.refclkRunning = true ∧ s.requestReady (s.dispose r) far = true) ∧
      (far = true → s.live = true → s.released = [] → u.out.farRequest = s.farRequestPresented (some r)) ∧
      (s.inReset = true → s.requestReady (s.dispose r) far = false ∧ s.farRequestPresented (some r) = none)

/-- Requests that the part does not monitor are forwarded and leave no other record: a plain read at any address and a plain
write outside every window none at all, a linked read outside every window its NOMON mark (R22, R122). -/
def Obligations.UnmonitoredRequestsForwarded : Prop :=
  ∀ (m : Master) (t : Tag) (a : Addr) (z : SizeCode) (d : Data) (b : Strobes) (s : State), farOpen s →
    (s.refusal (plainReadRequest m t a z) = none →
      exec (.plainRead m t a z true) s = .next { s with out := moved (some (farRead m t a z)) none }) ∧
    (s.refusal (plainWriteRequest m t a z d b) = none → s.classify a = none →
      exec (.plainWrite m t a z d b true) s = .next { s with out := moved (some (farWrite m t a z d b)) none }) ∧
    (s.refusal (linkedRequest m t .read a z) = none → s.classify a = none →
      ∃ u, exec (.linkedRead m t .read a z true) s = .next u ∧
        u = { s with nomon := u.nomon, out := moved (some (farRead m t a z)) none } ∧
        ∀ i k, u.nomonMark i k = if i = m ∧ k = t then true else s.nomonMark i k)

/-- A linked read to a granule in WATCH with no write in flight, from a master that holds no entry, is forwarded and arms
(R25, R29). -/
def Obligations.LinkedReadArms : Prop :=
  ∀ (m : Master) (t : Tag) (a : Addr) (z : SizeCode) (w : WindowIx) (s : State),
    listOpen s → s.refusal (linkedRequest m t .read a z) = none → s.classify a = some w →
    inWatch s (s.granuleOf w a) → s.covered (s.granuleOf w a) = false → holdsNone s m →
    ∃ u, exec (.linkedRead m t .read a z true) s = .next u ∧
      u = { s with
        contexts := u.contexts
        flight := unmarked m s.flight ++ [{ kind := .lread true none, master := m, tag := t, address := a,
                                            range := oneGranule s (s.granuleOf w a) }]
        out := moved (some (farRead m t a z)) none } ∧
      ∀ i, u.ctx i = if i = m then { s.ctx i with reservation := some (s.granuleOf w a) } else s.ctx i

/-- A linked read to a granule in WATCH with a write in flight, from a master that holds no entry, is parked with reason
HAZARD at the tail of the hazard list; it needs neither the far channel nor a flight-list entry (R26, R23). -/
def Obligations.LinkedReadParksBehindWrite : Prop :=
  ∀ (m : Master) (t : Tag) (a : Addr) (z : SizeCode) (far : Bool) (w : WindowIx) (s : State),
    portOpen s → s.refusal (linkedRequest m t .read a z) = none → s.classify a = some w →
    inWatch s (s.granuleOf w a) → s.covered (s.granuleOf w a) = true → holdsNone s m →
    ∃ u, exec (.linkedRead m t .read a z far) s = .next u ∧
      u = { s with
        contexts := u.contexts
        flight := unmarked m s.flight
        hazard := s.hazard ++ [m]
        released := disarmed m s.released
        out := moved none none } ∧
      ∀ i, u.ctx i = if i = m then
          { reservation := none, parked := some (parkedAs t a z (s.granuleOf w a) .hazard), holdership := none }
        else s.ctx i

/-- A holder's linked read to its own granule keeps its holdership and its tenure: with no write in flight it re-arms,
carrying the entry as holder-entry; behind a write it is parked with reason HAZARD (R27). -/
def Obligations.HolderRereads : Prop :=
  ∀ (m : Master) (t : Tag) (a : Addr) (z : SizeCode) (w : WindowIx) (e : EntryIx) (s : State),
    s.refusal (linkedRequest m t .read a z) = none → s.classify a = some w → tracks s e (s.granuleOf w a) →
    (s.entry e).serving = true → holdsOnly s m e →
    (listOpen s → s.covered (s.granuleOf w a) = false →
      ∃ u, exec (.linkedRead m t .read a z true) s = .next u ∧
        u = { s with
          contexts := u.contexts
          flight := unmarked m s.flight ++ [{ kind := .lread true (some e), master := m, tag := t, address := a,
                                              range := oneGranule s (s.granuleOf w a) }]
          out := moved (some (farRead m t a z)) none } ∧
        ∀ i, u.ctx i = if i = m then { s.ctx i with reservation := some (s.granuleOf w a) } else s.ctx i) ∧
    (∀ far, portOpen s → s.covered (s.granuleOf w a) = true →
      ∃ u, exec (.linkedRead m t .read a z far) s = .next u ∧
        u = { s with
          contexts := u.contexts
          flight := unmarked m s.flight
          hazard := s.hazard ++ [m]
          released := disarmed m s.released
          out := moved none none } ∧
        ∀ i, u.ctx i = if i = m then
            { reservation := none, parked := some (parkedAs t a z (s.granuleOf w a) .hazard), holdership := some e }
          else s.ctx i)

/-- A linked read to a granule in QUEUED or DRAIN that its master does not hold, and that another master holds or a write
in flight covers, joins the tail of the grant queue, as one contention event, and waits (R28, R73, R94). -/
def Obligations.LinkedReadJoinsQueue : Prop :=
  ∀ (m : Master) (t : Tag) (a : Addr) (z : SizeCode) (far : Bool) (w : WindowIx) (e : EntryIx) (s : State),
    portOpen s → s.refusal (linkedRequest m t .read a z) = none → s.classify a = some w →
    tracks s e (s.granuleOf w a) → (s.entry e).serving = true → (s.window w).queuedAllowed = true →
    ((s.entry e).holder ≠ none ∨ s.covered (s.granuleOf w a) = true) → holdsNone s m →
    ∃ u, exec (.linkedRead m t .read a z far) s = .next u ∧
      u = { s with
        contexts := u.contexts
        contention := u.contention
        flight := unmarked m s.flight
        released := disarmed m s.released
        out := moved none none } ∧
      (∀ i, u.ctx i = if i = m then
          { reservation := none, parked := some (parkedAs t a z (s.granuleOf w a) (.queue e)), holdership := none }
        else s.ctx i) ∧
      ∀ i, u.entry i = if i = e then
          { s.entry i with count := min ((s.entry i).count + 1) 15, queue := (s.entry i).queue ++ [m] }
        else s.entry i

/-- A linked read that joins the empty queue of an entry without holder, with no write in flight, is granted in the same
event: its master holds the entry for the window's tenure, and its read waits at the arbiter to arm (R28, R94, R95). -/
def Obligations.EmptyQueueJoinIsGranted : Prop :=
  ∀ (m : Master) (t : Tag) (a : Addr) (z : SizeCode) (far : Bool) (w : WindowIx) (e : EntryIx) (s : State),
    portOpen s → s.refusal (linkedRequest m t .read a z) = none → s.classify a = some w →
    tracks s e (s.granuleOf w a) → (s.entry e).serving = true → (s.window w).queuedAllowed = true →
    (s.entry e).holder = none → (s.entry e).queue = [] → s.covered (s.granuleOf w a) = false → holdsNone s m →
    ∃ u, exec (.linkedRead m t .read a z far) s = .next u ∧
      u = { s with
        contexts := u.contexts
        contention := u.contention
        flight := unmarked m s.flight
        released := disarmed m s.released ++ [{ master := m, tag := t, address := a, size := z,
                                                granule := s.granuleOf w a, mode := .arm (some e) }]
        out := moved none none } ∧
      (∀ i, u.ctx i = if i = m then { reservation := none, parked := none, holdership := some e } else s.ctx i) ∧
      ∀ i, u.entry i = if i = e then
          { s.entry i with
            count := min ((s.entry i).count + 1) 15, holder := some m, tenure := (s.window w).tenure.toNat, queue := [] }
        else s.entry i

/-- A holder's in-window linked read to another granule releases it by move, with the grant or the DRAIN exit that follows
(R23, R99, R100), and is then handled by the mode of the other granule: forwarded and armed, parked behind a write in
flight, or joined to the queue of its entry in QUEUED or DRAIN, where it waits for a holder or a write in flight or is
granted in the same event (R25, R26, R28, R94, R95). -/
def Obligations.MoveReleasesHolder : Prop :=
  ∀ (m : Master) (t : Tag) (a : Addr) (z : SizeCode) (w : WindowIx) (e : EntryIx) (s : State),
    Safety.HazardMatches s → s.refusal (linkedRequest m t .read a z) = none → s.classify a = some w →
    holdsOnly s m e → (s.entry e).serving = true → (s.entry e).granule ≠ s.granuleOf w a →
    let g := s.granuleOf w a
    let left := settled e (letGo m e (unreserved m s))
    (listOpen s → inWatch s g → s.covered g = false →
      exec (.linkedRead m t .read a z true) s = .next { left.updCtx m (fun c => { c with reservation := some g }) with
        flight := left.flight ++
          [{ kind := .lread true none, master := m, tag := t, address := a, range := oneGranule s g }]
        out := moved (some (farRead m t a z)) none }) ∧
    (∀ far, portOpen s → inWatch s g → s.covered g = true →
      exec (.linkedRead m t .read a z far) s = .next
        { left.updCtx m (fun c => { c with parked := some (parkedAs t a z g .hazard) }) with
          hazard := left.hazard ++ [m]
          out := moved none none }) ∧
    ∀ far x, portOpen s → tracks s x g → (s.entry x).serving = true → (s.window w).queuedAllowed = true →
      let joined := (left.updCtx m (fun c => { c with parked := some (parkedAs t a z g (.queue x)) })).updEntry x
        (fun y => { y with count := min (y.count + 1) 15, queue := y.queue ++ [m] })
      exec (.linkedRead m t .read a z far) s = .next
        { (if (s.entry x).holder = none then settled x joined else joined) with out := moved none none }

/-- A conditional write outside every window is replied EXFAIL from the reply queue, unjudged, and changes nothing else (R41). -/
def Obligations.ConditionalWriteOutsideFails : Prop :=
  ∀ (m : Master) (t : Tag) (a : Addr) (z : SizeCode) (d : Data) (b : Strobes) (far : Bool) (s : State),
    portOpen s → s.refusal (conditionalRequest m t .write a z d b) = none → s.classify a = none →
    exec (.conditionalWrite m t .write a z d b far) s = .next { s with
      replies := s.replies ++ [{ master := m, tag := t, status := .exfail }], out := moved none none }

/-- A conditional write in a window passes exactly when its master has a reservation on its granule and, where the
granule's entry is QUEUED or DRAIN, is that entry's holder (R43, Law 3). -/
def Obligations.ConditionalWritePassesOnReservation : Prop :=
  ∀ (m : Master) (t : Tag) (a : Addr) (z : SizeCode) (d : Data) (b : Strobes) (w : WindowIx) (s : State),
    Safety.EntriesTrack s → listOpen s → s.refusal (conditionalRequest m t .write a z d b) = none →
    s.classify a = some w →
    ∃ u, exec (.conditionalWrite m t .write a z d b true) s = .next u ∧
      (u.out.farRequest = some (farWrite m t a z d b) ↔
        (s.ctx m).reservation = some (s.granuleOf w a) ∧
          ∀ e, (s.entry e).serving = true → (s.entry e).granule = s.granuleOf w a → (s.entry e).holder = some m) ∧
      (u.out.farRequest = none ↔ u.replies = s.replies ++ [{ master := m, tag := t, status := .exfail }])

/-- A conditional write that passes on a granule in WATCH consumes its reservation, clears every other reservation on the
granule, joins the flight list as CWRITE and is forwarded with its data and strobes (R44, R33). -/
def Obligations.PassingWriteForwarded : Prop :=
  ∀ (m : Master) (t : Tag) (a : Addr) (z : SizeCode) (d : Data) (b : Strobes) (w : WindowIx) (s : State),
    listOpen s → s.refusal (conditionalRequest m t .write a z d b) = none → s.classify a = some w →
    (s.ctx m).reservation = some (s.granuleOf w a) → inWatch s (s.granuleOf w a) → holdsNone s m →
    ∃ u, exec (.conditionalWrite m t .write a z d b true) s = .next u ∧
      u = { s with
        contexts := u.contexts
        flight := unmarkedIn s (oneGranule s (s.granuleOf w a)) s.flight ++
          [{ kind := .cwrite, master := m, tag := t, address := a, range := oneGranule s (s.granuleOf w a) }]
        out := moved (some (farWrite m t a z d b)) none } ∧
      (u.ctx m).reservation = none ∧
      ∀ i, u.ctx i = afterWrite s (oneGranule s (s.granuleOf w a)) (s.ctx i)

/-- A holder's passing conditional write releases it by completion (R45, R99): its own write is in flight on the granule, so
nobody is granted at the release, and a DRAIN entry left with nobody exits to WATCH. -/
def Obligations.HolderWriteCompletes : Prop :=
  ∀ (m : Master) (t : Tag) (a : Addr) (z : SizeCode) (d : Data) (b : Strobes) (w : WindowIx) (e : EntryIx) (s : State),
    Safety.HazardMatches s → listOpen s → s.refusal (conditionalRequest m t .write a z d b) = none →
    s.classify a = some w → (s.ctx m).reservation = some (s.granuleOf w a) → tracks s e (s.granuleOf w a) →
    (s.entry e).serving = true → holdsOnly s m e →
    let r := oneGranule s (s.granuleOf w a)
    let s1 := { s.mapCtx (fun _ c => afterWrite s r c) with
      flight := unmarkedIn s r s.flight ++ [{ kind := .cwrite, master := m, tag := t, address := a, range := r }] }
    ∃ u, exec (.conditionalWrite m t .write a z d b true) s = .next u ∧
      u = { settled e (letGo m e s1) with out := moved (some (farWrite m t a z d b)) none } ∧
      u.covered (s.granuleOf w a) = true ∧ (u.entry e).holder = none ∧
      ((s.entry e).state = .drain → (s.entry e).queue = [] → (s.ctx m).parked = none →
        (u.entry e).state = .watch ∧ u.notices = (s.notify (.granuleCool e (s.entry e).granule)).notices)

/-- A conditional write that fails, of a master that holds no entry, clears its master's reservation and is replied EXFAIL;
it is counted on the granule's entry, allocates the FREE entry of lowest index, replaces the coldest WATCH entry, is
untracked with UNTRACKED, or is not counted where queued mode is not allowed (R43, R47, R49, R73 to R76). -/
def Obligations.FailingWriteCounted : Prop :=
  ∀ (m : Master) (t : Tag) (a : Addr) (z : SizeCode) (d : Data) (b : Strobes) (far : Bool) (w : WindowIx) (s : State),
    portOpen s → s.refusal (conditionalRequest m t .write a z d b) = none → s.classify a = some w →
    failsOn s m (s.granuleOf w a) → holdsNone s m →
    ∃ v, counted (s.granuleOf w a) (unreserved m s) v ∧
      exec (.conditionalWrite m t .write a z d b far) s = .next { v with
        replies := s.replies ++ [{ master := m, tag := t, status := .exfail }], out := moved none none }

/-- A holder's failing conditional write, to its own granule or to another, is counted on the granule written and then
releases its master by failure from whichever entry it holds, with its hazard re-read moved to the queue and the grant or
the DRAIN exit that follows, in the same event; an UNTRACKED of the count is handed over before the GRANULE_COOL of the exit
(R43, R47 to R49, R99, R134). -/
def Obligations.HolderFailureGrantsNext : Prop :=
  ∀ (m : Master) (t : Tag) (a : Addr) (z : SizeCode) (d : Data) (b : Strobes) (far : Bool) (w : WindowIx) (e : EntryIx)
    (s : State),
    Safety.HazardMatches s → portOpen s → s.refusal (conditionalRequest m t .write a z d b) = none →
    s.classify a = some w → failsOn s m (s.granuleOf w a) → (s.entry e).serving = true → holdsOnly s m e →
    ∃ v, counted (s.granuleOf w a) (unreserved m s) v ∧
      exec (.conditionalWrite m t .write a z d b far) s = .next { settled e (letGo m e v) with
        replies := s.replies ++ [{ master := m, tag := t, status := .exfail }], out := moved none none }

/-- A contention event on an untracked granule with no FREE entry replaces, among the WATCH entries with WARM clear, the one
of lowest F and then of lowest index; with no candidate it changes no entry and hands over UNTRACKED (R75, R76). -/
def Obligations.FullTableReplacesColdest : Prop :=
  ∀ (g : Granule) (s : State), (s.window g.window).queuedAllowed = true → (∀ e, (s.entry e).state ≠ .free) →
    (∀ e, (s.entry e).granule ≠ g) →
    (∀ e, (s.entry e).state = .watch → (s.entry e).warm = false →
      (∀ i, (s.entry i).state = .watch → (s.entry i).warm = false →
        (s.entry e).fast < (s.entry i).fast ∨ ((s.entry e).fast = (s.entry i).fast ∧ e ≤ i)) →
      s.contentionEvent g = { s with contention := (s.contentionEvent g).contention } ∧
      ∀ i, (s.contentionEvent g).entry i = if i = e then
          { state := .watch, granule := g, fast := 0, slow := 0, warm := false, hot := false,
            count := 1, holder := none, tenure := 0, queue := [] }
        else s.entry i) ∧
    ((∀ e, (s.entry e).state = .watch → (s.entry e).warm = true) → s.contentionEvent g = s.notify (.untracked g))

/-- A plain write in a window clears every reservation on a granule its full size touches, the writer's own included, joins
the flight list as WRITE and is forwarded (R33, R122, R56). -/
def Obligations.PlainWriteClearsReservations : Prop :=
  ∀ (m : Master) (t : Tag) (a : Addr) (z : SizeCode) (d : Data) (b : Strobes) (w : WindowIx) (s : State),
    listOpen s → s.refusal (plainWriteRequest m t a z d b) = none → s.classify a = some w →
    ∃ u, exec (.plainWrite m t a z d b true) s = .next u ∧
      u = { s with
        contexts := u.contexts
        flight := unmarkedIn s (s.writeRange w a z) s.flight ++
          [{ kind := .write, master := m, tag := t, address := a, range := s.writeRange w a z }]
        out := moved (some (farWrite m t a z d b)) none } ∧
      ∀ i, u.ctx i = afterWrite s (s.writeRange w a z) (s.ctx i)

/-- A request that passes MISALIGNED and BAD_SIZE has all its bytes in one window, or none of them in any; when its size is
at most the granule size they lie in one granule (R5). The granule range of a write runs from the granule of its first byte
to that of its last, and includes exactly the granules of its bytes (R6). -/
def Obligations.RequestLiesInOneWindow : Prop :=
  ∀ (s : State) (a : Addr) (z : SizeCode), Safety.TableLegal s → 2 ^ z.val ∣ a.toNat → z ≠ 7 →
    (∀ n : Nat, n < 2 ^ z.val → s.classify (a + BitVec.ofNat 32 n) = s.classify a) ∧
    ∀ w : WindowIx, s.classify a = some w →
      (2 ^ z.val ≤ s.granuleBytes w → ∀ n : Nat, n < 2 ^ z.val →
        s.granuleOf w (a + BitVec.ofNat 32 n) = s.granuleOf w a) ∧
      (s.writeRange w a z).first = (s.granuleOf w a).base ∧
      (s.writeRange w a z).last = (s.granuleOf w (a + BitVec.ofNat 32 (2 ^ z.val - 1))).base ∧
      ∀ b : Addr, s.inRange (s.writeRange w a z) (s.granuleOf w b) = true ↔
        ∃ n : Nat, n < 2 ^ z.val ∧ s.granuleOf w (a + BitVec.ofNat 32 n) = s.granuleOf w b

/-- A granule range includes a block of bytes exactly when some byte of the block lies between the first byte of its first
granule and the last byte of its last (R6). -/
def Obligations.RangeIncludesSharedByte : Prop :=
  ∀ (r : GranuleRange) (base : Addr) (size : Nat), 0 < size → 0 < r.size → r.first.toNat ≤ r.last.toNat →
    (r.includes base size = true ↔
      ∃ n : Nat, (base.toNat ≤ n ∧ n < base.toNat + size) ∧ r.first.toNat ≤ n ∧ n < r.last.toNat + r.size)

/-! Withdrawals. -/

/-- A withdrawal removes the hazard read it names, with CANCELLED; it waits while the reply queue is full; and one that names
no parked read is taken with no effect (R39, R66, R129). Withdrawal ready is low exactly while it waits (R153). -/
def Obligations.WithdrawHazardRead : Prop :=
  ∀ (m : Master) (t : Tag) (s : State), s.live = true →
    (∀ p, (s.ctx m).parked = some p → p.tag = t → p.reason = .hazard → s.replies.length < 4 →
      ∃ u, exec (.withdraw m t) s = .next u ∧
        u = { s with
          contexts := u.contexts
          hazard := s.hazard.filter fun i => decide (i ≠ m)
          replies := s.replies ++ [{ master := m, tag := t, status := .cancelled }]
          out := moved none none } ∧
        ∀ i, u.ctx i = if i = m then { s.ctx i with parked := none } else s.ctx i) ∧
    (∀ p, (s.ctx m).parked = some p → p.tag = t → 4 ≤ s.replies.length →
      exec (.withdraw m t) s = .next { s with out := Out.none }) ∧
    ((∀ p, (s.ctx m).parked = some p → p.tag ≠ t) →
      exec (.withdraw m t) s = .next { s with out := moved none none }) ∧
    (s.withdrawReady m t = true ↔ ∀ p, (s.ctx m).parked = some p → p.tag = t → s.replies.length < 4)

/-- A withdrawal removes the queued read it names from wherever it stands in its queue, with CANCELLED; a DRAIN entry left
with no holder and an empty queue takes the DRAIN exit in the same event (R105, R102). -/
def Obligations.WithdrawQueuedRead : Prop :=
  ∀ (m : Master) (t : Tag) (e : EntryIx) (p : Parked) (s : State), s.live = true → s.replies.length < 4 →
    (s.ctx m).parked = some p → p.tag = t → p.reason = .queue e →
    (((s.entry e).state ≠ .drain ∨ (s.entry e).holder ≠ none ∨
        ((s.entry e).queue.filter fun i => decide (i ≠ m)) ≠ []) →
      ∃ u, exec (.withdraw m t) s = .next u ∧
        u = { s with
          contexts := u.contexts
          contention := u.contention
          replies := s.replies ++ [{ master := m, tag := t, status := .cancelled }]
          out := moved none none } ∧
        (∀ i, u.ctx i = if i = m then { s.ctx i with parked := none } else s.ctx i) ∧
        ∀ i, u.entry i = if i = e then { s.entry i with queue := (s.entry i).queue.filter fun j => decide (j ≠ m) }
          else s.entry i) ∧
    ((s.entry e).state = .drain → (s.entry e).holder = none →
        ((s.entry e).queue.filter fun i => decide (i ≠ m)) = [] →
      ∃ u, exec (.withdraw m t) s = .next u ∧
        u = { s.notify (.granuleCool e (s.entry e).granule) with
          contexts := u.contexts
          contention := u.contention
          replies := s.replies ++ [{ master := m, tag := t, status := .cancelled }]
          out := moved none none } ∧
        (∀ i, u.ctx i = if i = m then { s.ctx i with parked := none } else s.ctx i) ∧
        ∀ i, u.entry i = if i = e then { s.entry i with state := .watch, queue := [] } else s.entry i)

/-! The far port and the near reply channel. -/

/-- A far response to an LREAD entry without holder-entry removes it: OK replies EXOKAY with the data and changes nothing
more; ERROR replies BUSERR, hands over MEMORY_ERROR, and clears the reservation exactly when the armed mark is set (R32,
R59). -/
def Obligations.FarResponseToLinkedRead : Prop :=
  ∀ (m : Master) (t : Tag) (d : Data) (before after : List Flight) (f : Flight) (armed : Bool) (s : State),
    s.live = true → s.replies = [] → s.flight = before ++ f :: after → firstOf m t before f →
    f.kind = .lread armed none →
    exec (.farResponse m t .ok d true) s = .next { s with
      flight := before ++ after
      out := moved none (some { master := m, tag := t, status := .exokay, data := d }) } ∧
    (armed = false → exec (.farResponse m t .error d true) s = .next { s.notify (.memoryError m t f.address) with
      flight := before ++ after, out := moved none (some (zeroReply m t .buserr)) }) ∧
    (armed = true → ∃ u, exec (.farResponse m t .error d true) s = .next u ∧
      u = { s.notify (.memoryError m t f.address) with
        contexts := u.contexts
        flight := unmarked m (before ++ after)
        released := disarmed m s.released
        out := moved none (some (zeroReply m t .buserr)) } ∧
      ∀ i, u.ctx i = if i = m then { s.ctx i with reservation := none } else s.ctx i)

/-- A far response to an LREAD entry with a holder-entry: OK leaves holdership and tenure as they are; ERROR hands over
MEMORY_ERROR, clears the reservation when the armed mark is set, and releases the master from the entry that it still holds,
with the grant or the DRAIN exit that follows; where it no longer holds it, nothing is released (R32, R101, R102). That the
release also clears a reservation armed by a later re-read, when the mark is clear, is the model's choice (log entry 21). -/
def Obligations.FarErrorReleasesHolder : Prop :=
  ∀ (m : Master) (t : Tag) (d : Data) (before after : List Flight) (f : Flight) (armed : Bool) (e : EntryIx) (s : State),
    Safety.HazardMatches s → s.live = true → s.replies = [] → s.flight = before ++ f :: after →
    firstOf m t before f → f.kind = .lread armed (some e) →
    let removed := { s.notify (.memoryError m t f.address) with flight := before ++ after }
    let s1 := if armed then unreserved m removed else removed
    exec (.farResponse m t .ok d true) s = .next { s with
      flight := before ++ after
      out := moved none (some { master := m, tag := t, status := .exokay, data := d }) } ∧
    ((s.entry e).holder = some m → (s.entry e).serving = true →
      exec (.farResponse m t .error d true) s = .next
        { settled e (letGo m e s1) with out := moved none (some (zeroReply m t .buserr)) }) ∧
    ((s.entry e).holder ≠ some m →
      exec (.farResponse m t .error d true) s = .next { s1 with out := moved none (some (zeroReply m t .buserr)) })

/-- A write removal with no entry to grant releases, in list order and with mode ARM, every hazard read whose granule no
write remaining in flight covers; the others keep their places (R59, R60, R63). -/
def Obligations.WriteRemovalReleasesHazardReads : Prop :=
  ∀ (m : Master) (t : Tag) (st : FarStatus) (d : Data) (before after : List Flight) (f : Flight) (s : State),
    s.live = true → s.replies = [] → s.flight = before ++ f :: after → firstOf m t before f → f.isWrite = true →
    (∀ e, ¬ mayGrant s f.range e) →
    let left := { s with flight := before ++ after }
    let freed := fun i => (s.ctx i).parked.any fun p => !left.covered p.granule
    ∃ u, exec (.farResponse m t st d true) s = .next u ∧
      u = { (if st = .error then s.notify (.memoryError m t f.address) else s) with
        contexts := u.contexts
        flight := before ++ after
        hazard := s.hazard.filter fun i => !freed i
        released := s.released ++ (s.hazard.filter freed).filterMap fun i =>
          (s.ctx i).parked.map fun p => p.release i (.arm (s.heldEntry i p.granule))
        out := moved none (some (zeroReply m t
          (if st = .error then .buserr else if f.kind = .write then .okay else .exokay))) } ∧
      ∀ i, u.ctx i = if i ∈ s.hazard ∧ freed i = true then { s.ctx i with parked := none } else s.ctx i

/-- A write removal releases the hazard reads that no write covers any more, and grants the head of the queue of every entry
in QUEUED or DRAIN without holder whose granule the removed write reached and no other write covers: each hazard read and
each head once, behind the reads already waiting, the hazard reads in list order. How the granted reads stand among
them is left open here, as the rules leave it (the model's order is log entry 22) (R59, R60, R63, R94, R95, R112). -/
def Obligations.WriteRemovalGrants : Prop :=
  ∀ (m : Master) (t : Tag) (st : FarStatus) (d : Data) (before after : List Flight) (f : Flight) (s : State),
    Safety.QueuesMatch s → Safety.HazardMatches s → s.live = true → s.replies = [] → s.flight = before ++ f :: after →
    firstOf m t before f → f.isWrite = true →
    let left := { s with flight := before ++ after }
    let freed := fun i => (s.ctx i).parked.any fun p => !left.covered p.granule
    let grants := fun e => s.inRange f.range (s.entry e).granule && (s.entry e).serving && (s.entry e).holder.isNone
      && !left.covered (s.entry e).granule
    let entryOf := fun i => entryIxs.find? fun e => grants e && decide ((s.entry e).queue.head? = some i)
    let reads := (s.hazard.filter freed).filterMap fun i =>
      (s.ctx i).parked.map fun p => p.release i (.arm (s.heldEntry i p.granule))
    let heads := (entryIxs.filter grants).filterMap fun e =>
      (s.entry e).queue.head?.bind fun k => (s.ctx k).parked.map fun p => p.release k (.arm (some e))
    ∃ u, exec (.farResponse m t st d true) s = .next u ∧
      (∃ more, u.released = s.released ++ more ∧ more.Perm (reads ++ heads) ∧ reads.Sublist more) ∧
      u = { (if st = .error then s.notify (.memoryError m t f.address) else s) with
        contexts := u.contexts
        contention := u.contention
        flight := before ++ after
        hazard := s.hazard.filter fun i => !freed i
        released := u.released
        out := moved none (some (zeroReply m t
          (if st = .error then .buserr else if f.kind = .write then .okay else .exokay))) } ∧
      (∀ i, u.ctx i = match entryOf i with
        | some e => { s.ctx i with parked := none, holdership := some e }
        | none => if i ∈ s.hazard ∧ freed i = true then { s.ctx i with parked := none } else s.ctx i) ∧
      ∀ e, u.entry e = match (s.entry e).queue with
        | k :: rest => if grants e = true then
            { s.entry e with
              holder := some k, tenure := (s.window (s.entry e).granule.window).tenure.toNat, queue := rest }
          else s.entry e
        | [] => s.entry e

/-- A far response of a transaction that is not in the flight list is replied NOMON when its mark is set, which it clears,
and OKAY otherwise, with the data; BUSERR on ERROR. A far response waits while the reply queue is not empty or the near
reply channel is not ready; what the near channel takes is the record presented on it (R58, R117, R153). -/
def Obligations.UntrackedFarResponse : Prop :=
  ∀ (m : Master) (t : Tag) (d : Data) (s : State), s.live = true →
    (∀ st, s.replies ≠ [] → exec (.farResponse m t st d true) s = .next { s with out := Out.none }) ∧
    (∀ st, exec (.farResponse m t st d false) s = .next { s with out := Out.none }) ∧
    (∀ st, s.replies = [] → ∃ u, exec (.farResponse m t st d true) s = .next u ∧ u.out.taken = true ∧
      u.out.nearReply = s.nearReplyPresented (some { master := m, tag := t, status := st, data := d })) ∧
    (∀ ready, s.farResponseReady ready = true ↔ s.replies = [] ∧ ready = true) ∧
    (s.replies = [] → (∀ f ∈ s.flight, ¬ (f.master = m ∧ f.tag = t)) →
      (s.nomonMark m t = false →
        exec (.farResponse m t .ok d true) s =
          .next { s with out := moved none (some { master := m, tag := t, status := .okay, data := d }) } ∧
        exec (.farResponse m t .error d true) s = .next { s with out := moved none (some (zeroReply m t .buserr)) }) ∧
      (s.nomonMark m t = true → ∀ st, ∃ u, exec (.farResponse m t st d true) s = .next u ∧
        u = { s with
          nomon := u.nomon
          out := moved none (some (if st = .error then zeroReply m t .buserr
            else { master := m, tag := t, status := .nomon, data := d })) } ∧
        ∀ i k, u.nomonMark i k = if i = m ∧ k = t then false else s.nomonMark i k))

/-- The oldest reply of the reply queue is sent, with all-zero data; it is the record presented on the near reply channel
whatever far response is offered, and with an empty queue and no far response offered nothing is presented (R125, R126,
R153). -/
def Obligations.ReplyQueueSendsOldest : Prop :=
  ∀ s : State, s.live = true →
    (∀ r rest, s.replies = r :: rest →
      exec .replyQueueSend s = .next { s with
        replies := rest, out := moved none (some (zeroReply r.master r.tag r.status)) } ∧
      ∀ offered, s.nearReplyPresented offered = some (zeroReply r.master r.tag r.status)) ∧
    (s.replies = [] → s.nearReplyPresented none = none)

/-- The released read that the arbiter chooses, whatever others wait, is forwarded as a plain read by its arming mode: ARM
arms and joins the flight list with its mark and holder-entry, DISARMED joins it without either, PLAIN only sets its NOMON
mark and needs no entry; the others keep waiting, unchanged (R30, R124). -/
def Obligations.ReleasedReadForwardedByMode : Prop :=
  ∀ (before after : List Released) (r : Released) (s : State), s.live = true → s.released = before ++ r :: after →
    chosen s before r after →
    (∀ h, r.mode = .arm h →
      ∃ u, exec .releasedReadForwarding s = .next u ∧
        u = { s with
          contexts := u.contexts
          flight := unmarked r.master s.flight ++
            [{ kind := .lread true h, master := r.master, tag := r.tag, address := r.address,
               range := oneGranule s r.granule }]
          released := before ++ after
          out := moved (some (farRead r.master r.tag r.address r.size)) none } ∧
        ∀ i, u.ctx i = if i = r.master then { s.ctx i with reservation := some r.granule } else s.ctx i) ∧
    (r.mode = .disarmed →
      exec .releasedReadForwarding s = .next { s with
        flight := s.flight ++ [{ kind := .lread false none, master := r.master, tag := r.tag, address := r.address,
                                 range := oneGranule s r.granule }]
        released := before ++ after
        out := moved (some (farRead r.master r.tag r.address r.size)) none }) ∧
    (r.mode = .plain →
      ∃ u, exec .releasedReadForwarding s = .next u ∧
        u = { s with
          nomon := u.nomon
          released := before ++ after
          out := moved (some (farRead r.master r.tag r.address r.size)) none } ∧
        ∀ i k, u.nomonMark i k = if i = r.master ∧ k = r.tag then true else s.nomonMark i k)

/-- The arbiter forwards, among the released reads that may be forwarded, the one of lowest master number, the one released
first among a master's; when none may be forwarded, nothing is. The read chosen is the record presented on the far request
channel while a released read waits, whatever request is at the head (R124, R64, R153). -/
def Obligations.ArbiterTakesLowestMaster : Prop :=
  ∀ s : State, s.live = true →
    ((∀ r ∈ s.released, ¬ mayGo s r) → exec .releasedReadForwarding s = .next { s with out := Out.none } ∧
      (s.released ≠ [] → ∀ head, s.farRequestPresented head = none)) ∧
    ∀ before r after, s.released = before ++ r :: after → chosen s before r after →
      ∃ u, exec .releasedReadForwarding s = .next u ∧ u.released = before ++ after ∧
        u.out = moved (some (farRead r.master r.tag r.address r.size)) none ∧
        ∀ head, s.farRequestPresented head = some (farRead r.master r.tag r.address r.size)

/-! The timebase and the contention table. -/

/-- At a sample-period expiry every non-FREE entry takes the steps of R78 to R80 and R82 to R84, a retired one becomes
FREE, and FREE entries stay as they are; the notices are handed over in index order; where no entry turns hot, no context,
list or released read changes (R77, R85 to R89). The sample timer starts again with the length the stored sample code gives
(R154). That the command comes about at any count of the timer is the model's choice (log entry 4), and so is the field that
marks the moment of the expiry (log entry 20). -/
def Obligations.ExpiryMovesFilters : Prop :=
  ∀ s : State, s.live = true →
    ∃ u, exec .samplePeriodExpiry s = .next u ∧
      u = { s with
        contexts := u.contexts
        flight := u.flight
        hazard := u.hazard
        released := u.released
        contention := u.contention
        notices := (expiryNotices s).notices
        overflow := (expiryNotices s).overflow
        discardMark := (expiryNotices s).discardMark
        sampleTimer := 0
        sampleLength := 256 * 4 ^ s.sampleCode.toNat
        atExpiry := true
        out := moved none none } ∧
      ((∀ e, ¬ turnsHot s e) → u.contexts = s.contexts ∧ u.flight = s.flight ∧ u.hazard = s.hazard ∧
        u.released = s.released) ∧
      ∀ e, ((s.entry e).state = .free → u.entry e = s.entry e) ∧
        (retiresNow s e → u.entry e = Entry.free) ∧
        ((s.entry e).state ≠ .free → ¬ retiresNow s e →
          sampledTo (s.window (s.entry e).granule.window) (s.entry e) (u.entry e) ∧
          (u.entry e).granule = (s.entry e).granule)

/-- The state of each entry after an expiry follows from its state before, the new HOT, its holder and its queue (R85 to
R89). -/
def Obligations.ExpiryDecidesStates : Prop :=
  ∀ s : State, s.live = true →
    ∃ u, exec .samplePeriodExpiry s = .next u ∧
      ∀ e, ((s.entry e).state = .watch → (sampledNow s e).hot = true → (u.entry e).state = .queued) ∧
        ((s.entry e).state = .watch → (sampledNow s e).hot = false → ¬ retiresNow s e → (u.entry e).state = .watch) ∧
        ((s.entry e).state = .queued → (sampledNow s e).hot = true → (u.entry e).state = .queued) ∧
        ((s.entry e).state = .queued → (sampledNow s e).hot = false →
          ((s.entry e).holder ≠ none ∨ (s.entry e).queue ≠ []) → (u.entry e).state = .drain) ∧
        ((s.entry e).state = .queued → (sampledNow s e).hot = false →
          (s.entry e).holder = none → (s.entry e).queue = [] → (u.entry e).state = .watch) ∧
        ((s.entry e).state = .drain → (sampledNow s e).hot = true → (u.entry e).state = .queued) ∧
        ((s.entry e).state = .drain → (sampledNow s e).hot = false → (u.entry e).state = .drain) ∧
        ((s.entry e).state ≠ .watch → (s.entry e).state ≠ .free →
          (u.entry e).holder = (s.entry e).holder ∧ (u.entry e).tenure = (s.entry e).tenure ∧
          (u.entry e).queue = (s.entry e).queue)

/-- Where entries enter QUEUED from WATCH at an expiry, in a coherent state whose waiters wait for writes in flight: every
reservation on their granules is cleared with the armed marks of its master's reads, every waiting read of mode ARM that
lies on them or belongs to a master whose reservation is so cleared becomes DISARMED, GRANULE_HOT is handed over, and each such entry has no holder and a queue that holds exactly the masters of
the hazard reads on its granule, in hazard-list order; nothing else of those records changes (R31,
R35, R67, R86). -/
def Obligations.EnteringQueuedTakesOverGranule : Prop :=
  ∀ s : State, Safety.Coherent s → Safety.WaitersCovered s → s.live = true →
    ∃ u, exec .samplePeriodExpiry s = .next u ∧
      (∀ m, u.ctx m = takenOver s (s.ctx m)) ∧
      u.flight = s.flight.map (Flight.unmark fun m => (s.ctx m).reservation.any fun g => (hotEntry s g).isSome) ∧
      u.hazard = s.hazard.filter (fun m => !(s.ctx m).parked.any fun p => (hotEntry s p.granule).isSome) ∧
      u.released = s.released.map (Released.disarm fun r => (hotEntry s r.granule).isSome ||
        (s.ctx r.master).reservation.any fun g => (hotEntry s g).isSome) ∧
      u.notices = (expiryNotices s).notices ∧
      ∀ e, turnsHot s e →
        (u.entry e).state = .queued ∧ (u.entry e).holder = none ∧ (u.entry e).tenure = 0 ∧
        (u.entry e).queue = s.hazard.filter (fun m => s.parkedOn m (s.entry e).granule) ∧
        expiryNotice s e = some (.granuleHot e (s.entry e).granule)

/-- A tenure unit decreases the tenure remaining of every entry with a holder by one; at the entries where that makes it 0
the tenure expiries are taken as part of the unit, one after the other in some order (R96, R97). The model's choices: the
order is free (log entry 6), the unit comes about at any count (log entry 4), the commanded TENURE_EXPIRY takes an entry with
one unit left (log entry 5), and the draw counter (log entry 8). -/
def Obligations.TenureUnitCountsDown : Prop :=
  ∀ s : State, s.live = true →
    ((∀ e, ¬ dueNow s e) → ∃ u, exec .tenureUnit s = .next u ∧
      u = { s with contention := u.contention, unitCounter := 0, draws := s.draws + 1, out := moved none none } ∧
      ∀ e, u.entry e = if (s.entry e).holder.isSome then { s.entry e with tenure := (s.entry e).tenure - 1 }
        else s.entry e) ∧
    ∃ order v, order.Nodup ∧ (∀ e, e ∈ order ↔ dueNow s e) ∧
      expiriesTaken order (s.mapEntries fun _ x =>
        if x.holder.isSome ∧ 1 < x.tenure then { x with tenure := x.tenure - 1 } else x) v ∧
      exec .tenureUnit s = .next { v with unitCounter := 0, draws := s.draws + 1, out := moved none none }

/-- A tenure expiry releases the holder, with or without a reservation, its hazard re-read moved to the queue, hands over
TENURE_EXPIRED, and is followed by the grant of the next waiter or the DRAIN exit with its GRANULE_COOL after TENURE_EXPIRED
(R97, R99, R111). An entry with no holder or with more than one unit left does not expire (the model's choice, log entry
5). -/
def Obligations.TenureExpiryReleasesHolder : Prop :=
  ∀ (e : EntryIx) (s : State), s.live = true →
    (¬ dueNow s e → exec (.tenureExpiry e) s = .next { s with out := Out.none }) ∧
    ∀ m, Safety.HazardMatches s → dueNow s e → (s.entry e).serving = true → (s.entry e).holder = some m →
      exec (.tenureExpiry e) s = .next
        { settled e ((letGo m e s).notify (.tenureExpired m e (s.entry e).granule.base)) with out := moved none none }

/-! The pins. -/

/-- The events of RESET_N and REFCLK: an assertion leaves every piece of state at its hard reset value (R155); a release lets
the part take events again when a REFCLK edge sees RESET_N high, at once while REFCLK runs and otherwise when it runs again
(R156); REFCLK only stops and starts (R154). In reset the ready outputs of the near port and the valid outputs are low and
far response ready is high (R155). MSO is driven exactly while MCS_N is low and RESET_N is high, seen or not, and carries
zero while no frame is in progress (R142, R157). The model's choices: what an assertion keeps because it lies outside the
part (log entry 2), the link's inner bytes (log entry 16), and the channel pins and the link between the rise of RESET_N and
the edge that sees it, with the edge at REFCLK_RUNS_AGAIN (log entry 13). -/
def Obligations.PinEventsTaken : Prop :=
  ∀ s : State,
    (∃ u, exec .hardReset s = .next u ∧
      u = { State.reset with
        link := { Link.reset with mcsLow := s.link.mcsLow }
        refclkRunning := s.refclkRunning
        resetLow := true
        inReset := true
        draws := s.draws
        pending := s.pending
        out := moved none none } ∧
      u.mon = false ∧ u.sampleCode = 1#2 ∧ u.mask = 0x3F#6 ∧ u.flight = [] ∧ u.hazard = [] ∧ u.released = [] ∧
      u.replies = [] ∧ u.notices = [] ∧ u.alert = false ∧ u.sampleTimer = 0 ∧ u.unitCounter = 0 ∧
      (∀ m, u.ctx m = { reservation := none, parked := none, holdership := none }) ∧
      (∀ m t, u.nomonMark m t = false) ∧ (∀ e, (u.entry e).state = .free) ∧
      ∀ w, (u.window w).enable = false ∧ (u.window w).base = 0#32 ∧ (u.window w).shapeValue = 0x00012000#32 ∧
        (u.window w).limitsValue = 0x00320410#32) ∧
    (∀ d far head offered m t ready, s.inReset = true →
      s.requestReady d far = false ∧ s.withdrawReady m t = false ∧ s.farResponseReady ready = true ∧
      s.farRequestPresented head = none ∧ s.nearReplyPresented offered = none) ∧
    (s.msoDriven = true ↔ s.link.mcsLow = true ∧ s.resetLow = false) ∧
    (s.link.phase = .idle → s.link.outByte = 0#8) ∧
    (s.refclkRunning = true → s.inReset = true →
      exec .resetRelease s = .next { s with resetLow := false, inReset := false, out := moved none none }) ∧
    (s.refclkRunning = false ∨ s.inReset = false →
      exec .resetRelease s = .next { s with resetLow := false, out := Out.none }) ∧
    exec .refclkStops s = .next { s with refclkRunning := false, out := moved none none } ∧
    exec .refclkRunsAgain s = .next { s with
      refclkRunning := true, inReset := s.inReset && s.resetLow, out := moved none none }

/-! The management link. -/

/-- A complete READ REGISTER frame returns the status byte, a zero byte and the register in its layout, most significant byte
first, and changes nothing but the link; with an undefined address it returns zeros and sets REFUSED (R142, R143, R146; 09,
Formats). -/
def Obligations.ReadRegisterReturnsValue : Prop :=
  ∀ (a : Byte) (s : State), linkOpen s →
    s.statusByte.toNat = statusLayout s ∧
    ∃ u, exec (.readRegister a (whole 6)) s = .next u ∧
      u = { s with link := u.link, out := moved none none } ∧ u.link.phase = .idle ∧ u.link.mcsLow = false ∧
      (∀ r, decodeRegister a = some r →
        msoNumbers u = [statusLayout s, 0] ++ bytesOf (registerLayout s r) ∧ u.link.refused = s.link.refused ∧
        (s.registerValue r).toNat = registerLayout s r) ∧
      (decodeRegister a = none → msoNumbers u = statusLayout s :: List.replicate 5 0 ∧ u.link.refused = true)

/-- A complete WRITE REGISTER frame to BASE, SHAPE or LIMITS of a DISABLED window replaces the register's fields at once when
they are legal, so that the register reads back the bits that hold a field; otherwise, and for ID and undefined addresses,
it changes nothing and sets REFUSED (R8, R146). -/
def Obligations.WindowFieldsWritten : Prop :=
  ∀ (v : Word32) (w : WindowIx) (s : State), linkOpen s →
    ((s.window w).enable = false → 2 ^ 12 ∣ v.toNat →
      ∃ u, exec (.writeRegister (registerAddress (.base w)) v (whole 6)) s = .next u ∧
        u = { s with windows := u.windows, link := u.link, out := moved none none } ∧
        u.link.refused = s.link.refused ∧
        ∀ i, u.window i = if i = w then { s.window i with base := v } else s.window i) ∧
    ((s.window w).enable = false → (v.extractLsb' 0 5).toNat ≤ 18 →
      ∃ u, exec (.writeRegister (registerAddress (.shape w)) v (whole 6)) s = .next u ∧
        u = { s with windows := u.windows, link := u.link, out := moved none none } ∧
        u.link.refused = s.link.refused ∧ u.registerValue (.shape w) = v &&& 0x0003331F#32 ∧
        ∀ i, u.window i = if i = w then
            { s.window i with
              sizeCode := v.extractLsb' 0 5, granuleCode := v.extractLsb' 8 2, queuedAllowed := v.getLsbD 12,
              autoGate := v.getLsbD 13, decay := v.extractLsb' 16 2 }
          else s.window i) ∧
    ((s.window w).enable = false → v.extractLsb' 16 8 ≠ 0#8 →
      ∃ u, exec (.writeRegister (registerAddress (.limits w)) v (whole 6)) s = .next u ∧
        u = { s with windows := u.windows, link := u.link, out := moved none none } ∧
        u.link.refused = s.link.refused ∧ u.registerValue (.limits w) = v &&& 0x00FF1F3F#32 ∧
        ∀ i, u.window i = if i = w then
            { s.window i with tenure := v.extractLsb' 16 8, hy := v.extractLsb' 8 5, th := v.extractLsb' 0 6 }
          else s.window i) ∧
    ∀ a, ((s.window w).enable = true ∧
          (a = registerAddress (.base w) ∨ a = registerAddress (.shape w) ∨ a = registerAddress (.limits w))) ∨
        (a = registerAddress (.base w) ∧ ¬ 2 ^ 12 ∣ v.toNat) ∨
        (a = registerAddress (.shape w) ∧ 19 ≤ (v.extractLsb' 0 5).toNat) ∨
        (a = registerAddress (.limits w) ∧ v.extractLsb' 16 8 = 0#8) ∨
        a = registerAddress .id ∨ decodeRegister a = none →
      ∃ u, exec (.writeRegister a v (whole 6)) s = .next u ∧
        u = { s with link := u.link, out := moved none none } ∧ u.link.refused = true

/-- A complete CONTROL write gives MON, the sample code and the notice kind mask their new values together; turning MON off
takes a window disable event for each ACTIVE window (R11). The running sample period keeps its length, but one that begins at
an expiry of the same moment takes the new one, the same in either order (R12, R154; what counts as the same moment is log
entry 20). -/
def Obligations.ControlWritten : Prop :=
  ∀ (v : Word32) (s : State), linkOpen s →
    ∃ u, exec (.writeControl v (whole 6)) s = .next u ∧
      u = { s with
        mon := v.getLsbD 0
        sampleCode := v.extractLsb' 4 2
        mask := v.extractLsb' 16 6
        sampleLength := if s.atExpiry then 256 * 4 ^ (v.extractLsb' 4 2).toNat else s.sampleLength
        contexts := u.contexts
        contention := u.contention
        flight := u.flight
        hazard := u.hazard
        released := u.released
        link := u.link
        out := moved none none } ∧
      u.link.refused = s.link.refused ∧ u.registerValue .control = v &&& 0x003F0031#32 ∧
      (s.mon = false ∨ v.getLsbD 0 = true →
        u.contexts = s.contexts ∧ u.contention = s.contention ∧ u.flight = s.flight ∧ u.hazard = s.hazard ∧
        u.released = s.released) ∧
      (Safety.Coherent s → s.mon = true → v.getLsbD 0 = false → dissolved s u s.active) ∧
      ∃ x y z, exec .samplePeriodExpiry s = .next x ∧ exec (.writeControl v (whole 6)) x = .next y ∧
        exec .samplePeriodExpiry u = .next z ∧ y.sampleLength = z.sampleLength ∧ y.sampleTimer = z.sampleTimer

/-- A complete write that sets ENABLE enables the window when the checks of R9 pass, is refused when one fails, and changes
nothing when the window is enabled already; only bit 0 is judged (R9, R146). -/
def Obligations.EnableSetChecked : Prop :=
  ∀ (w : WindowIx) (upper : BitVec 31) (s : State), linkOpen s →
    ∃ u, exec (.enableSet w upper (whole 6)) s = .next u ∧
      u = { s with windows := u.windows, link := u.link, out := moved none none } ∧
      ((s.window w).enable = true → u.windows = s.windows ∧ u.link.refused = s.link.refused) ∧
      ((s.window w).enable = false → enableChecks s w →
        u.link.refused = s.link.refused ∧
        ∀ i, u.window i = if i = w then { s.window i with enable := true } else s.window i) ∧
      ((s.window w).enable = false → ¬ enableChecks s w → u.windows = s.windows ∧ u.link.refused = true)

/-- A complete write that clears ENABLE is never refused: the window is DISABLED, and a window that was ACTIVE takes the
window disable event, after which no reservation, parked read or non-FREE entry carries its index (R10, R13). -/
def Obligations.EnableClearDissolves : Prop :=
  ∀ (w : WindowIx) (upper : BitVec 31) (s : State), linkOpen s →
    ∃ u, exec (.enableClear w upper (whole 6)) s = .next u ∧
      u = { s with
        windows := u.windows
        contexts := u.contexts
        contention := u.contention
        flight := u.flight
        hazard := u.hazard
        released := u.released
        link := u.link
        out := moved none none } ∧
      u.link.refused = s.link.refused ∧
      (∀ i, u.window i = if i = w then { s.window i with enable := false } else s.window i) ∧
      (s.active w = false → u.contexts = s.contexts ∧ u.contention = s.contention ∧ u.flight = s.flight ∧
        u.hazard = s.hazard ∧ u.released = s.released) ∧
      (Safety.Coherent s → s.active w = true → dissolved s u fun i => decide (i = w))

/-- Complete READ ENTRY and READ CONTEXT frames return the snapshot of the entry or context named, in the layouts of the
formats, and change nothing but the link; an index out of range returns zeros and sets REFUSED (R148). -/
def Obligations.RecordsReturned : Prop :=
  ∀ s : State, linkOpen s →
    (∀ e : EntryIx, ∃ u, exec (.readEntry (BitVec.ofNat 8 e.val) (whole (15 + (s.entry e).queue.length))) s = .next u ∧
      u = { s with link := u.link, out := moved none none } ∧ u.link.refused = s.link.refused ∧
      msoNumbers u = [statusLayout s, 0] ++ entryLayout (s.entry e)) ∧
    (∀ m : Master, ∃ u, exec (.readContext (BitVec.ofNat 8 m.val) (whole 18)) s = .next u ∧
      u = { s with link := u.link, out := moved none none } ∧ u.link.refused = s.link.refused ∧
      msoNumbers u = [statusLayout s, 0] ++ contextLayout (s.ctx m)) ∧
    (∀ i : Byte, 32 ≤ i.toNat → ∃ u, exec (.readEntry i (whole 15)) s = .next u ∧
      u = { s with link := u.link, out := moved none none } ∧ u.link.refused = true ∧
      msoNumbers u = statusLayout s :: List.replicate 14 0) ∧
    ∀ i : Byte, 16 ≤ i.toNat → ∃ u, exec (.readContext i (whole 18)) s = .next u ∧
      u = { s with link := u.link, out := moved none none } ∧ u.link.refused = true ∧
      msoNumbers u = statusLayout s :: List.replicate 17 0

/-- A complete TAKE NOTICE frame returns the oldest notice, in the layout of the formats, and removes it; with an empty queue it returns kind NONE and
removes nothing; a frame that ends before the record's last byte removes nothing (R138). -/
def Obligations.TakeNoticeRemovesHead : Prop :=
  ∀ s : State, linkOpen s →
    (∀ n rest, s.notices = n :: rest → ∃ u, exec (.takeNotice (whole 9)) s = .next u ∧
      u = { s with notices := rest, link := u.link, out := moved none none } ∧ u.link.refused = s.link.refused ∧
      msoNumbers u = statusLayout s :: noticeLayout n) ∧
    (s.notices = [] → ∃ u, exec (.takeNotice (whole 9)) s = .next u ∧
      u = { s with link := u.link, out := moved none none } ∧ u.link.refused = s.link.refused ∧
      msoNumbers u = statusLayout s :: List.replicate 8 0) ∧
    ∀ n : Nat, n < 9 → ∃ u, exec (.takeNotice (whole n)) s = .next u ∧
      u = { s with link := u.link, out := moved none none }

/-- A complete READ STATUS frame returns the flags and counts and then clears REFUSED and OVERFLOW; a discard taken between
its snapshot and its last byte leaves OVERFLOW set (R139, R149). -/
def Obligations.ReadStatusReportsAndClears : Prop :=
  ∀ s : State, linkOpen s →
    (∃ u, exec (.readStatus (whole 6)) s = .next u ∧
      u = { s with overflow := false, discardMark := false, link := u.link, out := moved none none } ∧
      u.link.refused = false ∧
      u.link.mso =
        [s.statusByte,
         0#4 ++ BitVec.ofBool s.alert ++ BitVec.ofBool s.link.refused ++ BitVec.ofBool s.overflow ++ BitVec.ofBool s.mon,
         BitVec.ofNat 8 s.notices.length, BitVec.ofNat 8 s.flight.length, BitVec.ofNat 8 s.hazard.length,
         BitVec.ofNat 8 (entryIxs.filter fun e => decide ((s.entry e).state = .free)).length]) ∧
    ∀ b, s.link.phase = .ret → s.link.command = some .readStatus → s.link.shiftOut = [b] →
      ∃ u, exec (.readStatus { starts := false, bytes := 1, ends := true }) s = .next u ∧
        u = { s with overflow := s.overflow && s.discardMark, link := u.link, out := moved none none } ∧
        u.link.refused = false

/-- In a coherent state a CLEAR ALL frame empties the contexts, the contention table, the hazard list and the notice queue,
clears OVERFLOW, releases every parked and waiting read as PLAIN, and keeps the window table, the flight list but for its
armed marks and holder-entries, the NOMON marks, the reply queue, REFUSED and the timebase (R38, R68, R110, R140, R150). -/
def Obligations.ClearAllEmptiesOwners : Prop :=
  ∀ s : State, linkOpen s → Safety.Coherent s →
    ∃ u, exec (.clearAll (whole 1)) s = .next u ∧
      u = { s with
        contexts := u.contexts
        contention := u.contention
        flight := u.flight
        hazard := []
        released := u.released
        notices := []
        overflow := false
        link := u.link
        out := moved none none } ∧
      u.link.refused = s.link.refused ∧ u.alert = false ∧
      (∀ m, u.ctx m = { reservation := none, parked := none, holdership := none }) ∧
      (∀ e, u.entry e = Entry.free) ∧
      u.flight = s.flight.map (marksOutside s fun _ => true) ∧
      ∃ more, u.released = (s.released.map fun r => { r with mode := .plain }) ++ more ∧
        more.Perm (plainReads s fun _ => true)

/-- A complete RELEASE HOLDER frame releases the holder of an entry in QUEUED or DRAIN, with or without a reservation, its
hazard re-read moved to the queue, and the grant of the next waiter or the DRAIN exit follows in the same event; it is refused
for an index of 32 or more, for FREE and WATCH, and without a holder (R107, R108, R99, R111). -/
def Obligations.ReleaseHolderGrantsNext : Prop :=
  ∀ s : State, linkOpen s →
    (∀ e m, Safety.HazardMatches s → (s.entry e).serving = true → (s.entry e).holder = some m →
      ∃ u, exec (.releaseHolder (BitVec.ofNat 8 e.val) (whole 2)) s = .next u ∧
        u = { settled e (letGo m e s) with link := u.link, out := moved none none } ∧
        u.link.refused = s.link.refused) ∧
    ∀ i : Byte, (∀ e : EntryIx, e.val = i.toNat → (s.entry e).serving = false ∨ (s.entry e).holder = none) →
      ∃ u, exec (.releaseHolder i (whole 2)) s = .next u ∧
        u = { s with link := u.link, out := moved none none } ∧ u.link.refused = true

/-- An unknown command code sets REFUSED at its command byte, and the rest of its frame returns zeros and changes nothing; a
frame that ends during its command byte returns the bits clocked of the status byte and sets nothing (R143 to R145). -/
def Obligations.UnknownAndCutCommands : Prop :=
  ∀ s : State, linkOpen s →
    (∀ c n, decodeCommand c = none → ∃ u, exec (.unknownCommand c (whole (n + 1))) s = .next u ∧
      u = { s with link := u.link, out := moved none none } ∧ u.link.refused = true ∧
      u.link.mso = s.statusByte :: List.replicate n 0#8) ∧
    ∀ bits, ∃ u, exec (.shortFrame bits) s = .next u ∧
      u = { s with link := u.link, out := moved none none } ∧ u.link.refused = s.link.refused ∧
      u.link.phase = .idle ∧ u.link.mso = [] ∧
      u.link.msoBits = ((List.range 8).map fun i => s.statusByte.getLsbD (7 - i)).take bits.val

/-- A frame that ends before its last byte changes nothing where it would have acted: no register is written, no notice
removed, no flag cleared, no holder released, and REFUSED is not set (R145). Only the discard mark follows the snapshot of
READ STATUS (R139). -/
def Obligations.ShortFramesChangeNothing : Prop :=
  ∀ (c : Instr) (s : State), linkOpen s →
    ((∃ a v n, n < 6 ∧ c = .writeRegister a v (whole n)) ∨ (∃ v n, n < 6 ∧ c = .writeControl v (whole n)) ∨
      (∃ w x n, n < 6 ∧ c = .enableSet w x (whole n)) ∨ (∃ w x n, n < 6 ∧ c = .enableClear w x (whole n)) ∨
      (∃ n, n < 9 ∧ c = .takeNotice (whole n)) ∨ (∃ n, n < 6 ∧ c = .readStatus (whole n)) ∨
      (∃ n, n < 1 ∧ c = .clearAll (whole n)) ∨ (∃ i n, n < 2 ∧ c = .releaseHolder i (whole n))) →
    ∃ u, exec c s = .next u ∧
      u = { s with
        discardMark := (match c with
          | .readStatus f => if 1 ≤ f.bytes then false else s.discardMark
          | _ => s.discardMark)
        link := u.link
        out := moved none none } ∧
      u.link.refused = s.link.refused ∧ u.link.phase = .idle

/-! Notices. -/

/-- A notice handed over is dropped when its kind is masked, or when it is UNTRACKED and one waits already; otherwise it
joins the tail of a queue of fewer than 16, and is discarded with OVERFLOW and the discard mark set when the queue is full
(R135 to R137, R139). That the mark is set before the first READ STATUS snapshot too is the model's choice (log entry 23). -/
def Obligations.NoticeQueueRules : Prop :=
  ∀ (n : Notice) (s : State),
    (s.mask.getLsbD n.kindBit = false → s.notify n = s) ∧
    (∀ g h, n = .untracked g → .untracked h ∈ s.notices → s.notify n = s) ∧
    (s.mask.getLsbD n.kindBit = true → (n.isUntracked = true → ∀ g, .untracked g ∉ s.notices) →
      (s.notices.length < 16 → s.notify n = { s with notices := s.notices ++ [n] }) ∧
      (16 ≤ s.notices.length → s.notify n = { s with overflow := true, discardMark := true }))

/-! What every step keeps. -/

/-- Every step keeps the records of the part in agreement: Laws 1, 2, 4, 5, 6 and 10 hold after it when they held before. -/
def Obligations.CoherentKeptByStep : Prop :=
  ∀ s u : State, Safety.Coherent s → step s = .next u → Safety.Coherent u

/-- In a coherent state every step keeps the tags of the flight list, the arbiter and the contexts distinct, and leaves no
waiter that nothing holds back. -/
def Obligations.TagsAndWaitersKeptByStep : Prop :=
  ∀ s u : State, Safety.Coherent s → step s = .next u →
    (Safety.TagsDistinct s → Safety.TagsDistinct u) ∧ (Safety.WaitersCovered s → Safety.WaitersCovered u)

/-- Every step keeps the bounds of the lists, the filters and the timebase, and the reply queue and the notice queue as
R125 and R137 describe them (Law 7, Law 9, R81, R154). That the sample timer stands at 0 while the field that marks the
moment of an expiry is set speaks of the model's own field (log entry 20). -/
def Obligations.BoundsKeptByStep : Prop :=
  ∀ s u : State, step s = .next u →
    (Safety.ListsBounded s → Safety.ListsBounded u) ∧ (Safety.FiltersBounded s → Safety.FiltersBounded u) ∧
    (Safety.TimebaseBounded s → Safety.TimebaseBounded u) ∧ (Safety.RepliesOwn s → Safety.RepliesOwn u) ∧
    (Safety.UntrackedOnce s → Safety.UntrackedOnce u)

/-- Every step keeps the frame state of the link in step with its frame, the notice being returned at the head of its queue,
the reset values held in reset, and the reset in step with RESET_N and REFCLK (R138, R144, R155, R156). That a rise of
RESET_N is seen at once while REFCLK runs, and otherwise when it runs again, is the model's choice (log entry 13). -/
def Obligations.LinkAndResetKeptByStep : Prop :=
  ∀ s u : State, step s = .next u →
    (Safety.FrameMatches s → Safety.FrameMatches u) ∧
    (Safety.FrameMatches s → Safety.HeadStays s → Safety.HeadStays u) ∧ (Safety.ResetHolds s → Safety.ResetHolds u) ∧
    (Safety.ResetFollowsPin s → Safety.ResetFollowsPin u)

/-- The state right after reset, with the pin levels that log entry 2 chooses and the mark of an expiry's moment clear (log
entry 20), meets every invariant, that of log entry 13 included. -/
def Obligations.ResetMeetsInvariants : Prop :=
  Safety.Coherent State.reset ∧ Safety.WaitersCovered State.reset ∧ Safety.TagsDistinct State.reset ∧
    Safety.ListsBounded State.reset ∧ Safety.FiltersBounded State.reset ∧ Safety.TimebaseBounded State.reset ∧
    Safety.RepliesOwn State.reset ∧ Safety.UntrackedOnce State.reset ∧ Safety.FrameMatches State.reset ∧
    Safety.HeadStays State.reset ∧ Safety.ResetHolds State.reset ∧ Safety.ResetFollowsPin State.reset

/-- In a coherent state the laws read as the spec words them: a reservation lies in an enabled window while MON is on; a
master waits in one place at most and holds nothing while it waits in a queue; two entries have two holders; no list of
waiting masters exceeds 16; and no master but the holder reserves a granule in QUEUED or DRAIN (R20, R92, R62). -/
def Obligations.CoherentMeansLaws : Prop :=
  ∀ s : State, Safety.Coherent s →
    (∀ m g, (s.ctx m).reservation = some g → s.mon = true ∧ (s.window g.window).enable = true) ∧
    (∀ e f m, m ∈ (s.entry e).queue → m ∈ (s.entry f).queue → e = f) ∧
    (∀ e m, m ∈ (s.entry e).queue → m ∉ s.hazard ∧ ∀ i, (s.entry i).holder ≠ some m) ∧
    (∀ e f m, (s.entry e).holder = some m → (s.entry f).holder = some m → e = f) ∧
    s.hazard.length ≤ 16 ∧ (∀ e, (s.entry e).queue.length ≤ 16) ∧
    (∀ e m, (s.entry e).state = .queued ∨ (s.entry e).state = .drain → (s.entry e).holder ≠ some m →
      (s.ctx m).reservation ≠ some (s.entry e).granule) ∧
    ∀ e, (s.entry e).state = .free ∨ (s.entry e).state = .watch → (s.entry e).holder = none ∧ (s.entry e).queue = []

/-- The command codes and the register addresses are those of the formats, each code and address means one command or
register, and no other byte means any (R144, R146). -/
def Obligations.CodesAndAddressesDecode : Prop :=
  (∀ (b : Byte) (c : LinkCommand), decodeCommand b = some c ↔ b = commandCode c) ∧
    (∀ (a : Byte) (r : Reg), decodeRegister a = some r ↔ a = registerAddress r) ∧
    commandCode .readRegister = 0x21#8 ∧ commandCode .writeRegister = 0x22#8 ∧ commandCode .readEntry = 0x31#8 ∧
    commandCode .readContext = 0x32#8 ∧ commandCode .takeNotice = 0x41#8 ∧ commandCode .readStatus = 0x42#8 ∧
    commandCode .clearAll = 0x5C#8 ∧ commandCode .releaseHolder = 0x5D#8 ∧
    registerAddress .id = 0x00#8 ∧ registerAddress .control = 0x01#8 ∧
    ∀ w : WindowIx, (registerAddress (.base w)).toNat = 0x10 + 4 * w.val ∧
      (registerAddress (.shape w)).toNat = 0x11 + 4 * w.val ∧ (registerAddress (.limits w)).toNat = 0x12 + 4 * w.val ∧
      (registerAddress (.enable w)).toNat = 0x13 + 4 * w.val
end

