-- ==== Sys2Proof/Laws/State.lean ====
section
/-! SUPPORT. One lemma per field per update: what each shared operation leaves unchanged, and what it makes of the record
it changes. -/

namespace Sys2Proof.Machine

/-! The records an update changes. -/

@[simp] theorem State.ctx_mapCtx (s : State) (f : Master → Context → Context) (m : Master) :
    (s.mapCtx f).ctx m = f m (s.ctx m) := by
  simp [State.mapCtx, State.ctx]

@[simp] theorem State.ctx_updCtx (s : State) (m i : Master) (f : Context → Context) :
    (s.updCtx m f).ctx i = if i = m then f (s.ctx i) else s.ctx i := by
  simp [State.updCtx]

@[simp] theorem State.entry_mapEntries (s : State) (f : EntryIx → Entry → Entry) (e : EntryIx) :
    (s.mapEntries f).entry e = f e (s.entry e) := by
  simp [State.mapEntries, State.entry]

@[simp] theorem State.entry_updEntry (s : State) (e i : EntryIx) (f : Entry → Entry) :
    (s.updEntry e f).entry i = if i = e then f (s.entry i) else s.entry i := by
  simp [State.updEntry]

@[simp] theorem State.window_updWindow (s : State) (w i : WindowIx) (f : Window → Window) :
    (s.updWindow w f).window i = if i = w then f (s.window i) else s.window i := by
  simp [State.updWindow, State.window]

/-- Two places of marks are the same only for the same master and tag. -/
theorem nomonIx_inj {m n : Master} {t u : Tag} : nomonIx m t = nomonIx n u ↔ m = n ∧ t = u := by
  simp only [nomonIx, Fin.mk.injEq]
  constructor
  · intro h; exact ⟨Fin.ext (by omega), Fin.ext (by omega)⟩
  · rintro ⟨rfl, rfl⟩; rfl

@[simp] theorem State.nomonMark_setNomon (s : State) (m n : Master) (t u : Tag) (b : Bool) :
    (s.setNomon m t b).nomonMark n u = if m = n ∧ t = u then b else s.nomonMark n u := by
  have h := @nomonIx_inj m n t u
  simp only [State.setNomon, State.nomonMark, Fin.getElem_fin, Vector.getElem_set]
  split_ifs with h1 h2 h2
  · rfl
  · exact absurd (h.mp (Fin.ext h1)) h2
  · exact absurd (congrArg Fin.val (h.mpr h2)) h1
  · rfl

@[simp] theorem State.enqueue_replies (s : State) (m : Master) (t : Tag) (st : ReplyStatus) :
    (s.enqueue m t st).replies = s.replies ++ [{ master := m, tag := t, status := st }] := rfl
@[simp] theorem State.track_flight (s : State) (f : Flight) : (s.track f).flight = s.flight ++ [f] := rfl
@[simp] theorem State.quiet_out (s : State) : s.quiet.out = Out.none := rfl
@[simp] theorem State.took_out (s : State) : s.took.out = { s.out with taken := true } := rfl
@[simp] theorem State.forwarded_out (s : State) (r : FarRequest) :
    (s.forwarded r).out = { s.out with farRequest := some r } := rfl
@[simp] theorem State.replied_out (s : State) (r : NearReply) :
    (s.replied r).out = { s.out with nearReply := some r } := rfl
@[simp] theorem State.updLink_link (s : State) (f : Link → Link) : (s.updLink f).link = f s.link := rfl
@[simp] theorem State.refuse_link (s : State) : s.refuse.link = { s.link with refused := true } := rfl
@[simp] theorem State.seeRelease_inReset (s : State) : s.seeRelease.inReset = (s.inReset && s.resetLow) := rfl

/-! What `State.mapCtx` leaves unchanged. -/

@[simp] theorem State.mapCtx_windows (s : State) (f : Master → Context → Context) : (s.mapCtx f).windows = s.windows := by
  simp only [State.mapCtx]
@[simp] theorem State.mapCtx_mon (s : State) (f : Master → Context → Context) : (s.mapCtx f).mon = s.mon := by
  simp only [State.mapCtx]
@[simp] theorem State.mapCtx_sampleCode (s : State) (f : Master → Context → Context) : (s.mapCtx f).sampleCode = s.sampleCode := by
  simp only [State.mapCtx]
@[simp] theorem State.mapCtx_mask (s : State) (f : Master → Context → Context) : (s.mapCtx f).mask = s.mask := by
  simp only [State.mapCtx]
@[simp] theorem State.mapCtx_flight (s : State) (f : Master → Context → Context) : (s.mapCtx f).flight = s.flight := by
  simp only [State.mapCtx]
@[simp] theorem State.mapCtx_hazard (s : State) (f : Master → Context → Context) : (s.mapCtx f).hazard = s.hazard := by
  simp only [State.mapCtx]
@[simp] theorem State.mapCtx_nomon (s : State) (f : Master → Context → Context) : (s.mapCtx f).nomon = s.nomon := by
  simp only [State.mapCtx]
@[simp] theorem State.mapCtx_released (s : State) (f : Master → Context → Context) : (s.mapCtx f).released = s.released := by
  simp only [State.mapCtx]
@[simp] theorem State.mapCtx_contention (s : State) (f : Master → Context → Context) : (s.mapCtx f).contention = s.contention := by
  simp only [State.mapCtx]
@[simp] theorem State.mapCtx_replies (s : State) (f : Master → Context → Context) : (s.mapCtx f).replies = s.replies := by
  simp only [State.mapCtx]
@[simp] theorem State.mapCtx_notices (s : State) (f : Master → Context → Context) : (s.mapCtx f).notices = s.notices := by
  simp only [State.mapCtx]
@[simp] theorem State.mapCtx_overflow (s : State) (f : Master → Context → Context) : (s.mapCtx f).overflow = s.overflow := by
  simp only [State.mapCtx]
@[simp] theorem State.mapCtx_discardMark (s : State) (f : Master → Context → Context) : (s.mapCtx f).discardMark = s.discardMark := by
  simp only [State.mapCtx]
@[simp] theorem State.mapCtx_link (s : State) (f : Master → Context → Context) : (s.mapCtx f).link = s.link := by
  simp only [State.mapCtx]
@[simp] theorem State.mapCtx_sampleTimer (s : State) (f : Master → Context → Context) : (s.mapCtx f).sampleTimer = s.sampleTimer := by
  simp only [State.mapCtx]
@[simp] theorem State.mapCtx_sampleLength (s : State) (f : Master → Context → Context) : (s.mapCtx f).sampleLength = s.sampleLength := by
  simp only [State.mapCtx]
@[simp] theorem State.mapCtx_atExpiry (s : State) (f : Master → Context → Context) : (s.mapCtx f).atExpiry = s.atExpiry := by
  simp only [State.mapCtx]
@[simp] theorem State.mapCtx_unitCounter (s : State) (f : Master → Context → Context) : (s.mapCtx f).unitCounter = s.unitCounter := by
  simp only [State.mapCtx]
@[simp] theorem State.mapCtx_refclkRunning (s : State) (f : Master → Context → Context) : (s.mapCtx f).refclkRunning = s.refclkRunning := by
  simp only [State.mapCtx]
@[simp] theorem State.mapCtx_resetLow (s : State) (f : Master → Context → Context) : (s.mapCtx f).resetLow = s.resetLow := by
  simp only [State.mapCtx]
@[simp] theorem State.mapCtx_inReset (s : State) (f : Master → Context → Context) : (s.mapCtx f).inReset = s.inReset := by
  simp only [State.mapCtx]
@[simp] theorem State.mapCtx_out (s : State) (f : Master → Context → Context) : (s.mapCtx f).out = s.out := by
  simp only [State.mapCtx]
@[simp] theorem State.mapCtx_draws (s : State) (f : Master → Context → Context) : (s.mapCtx f).draws = s.draws := by
  simp only [State.mapCtx]
@[simp] theorem State.mapCtx_pending (s : State) (f : Master → Context → Context) : (s.mapCtx f).pending = s.pending := by
  simp only [State.mapCtx]
@[simp] theorem State.mapCtx_entry (s : State) (f : Master → Context → Context) (i : EntryIx) : (s.mapCtx f).entry i = s.entry i := by
  simp only [State.entry, State.mapCtx]
@[simp] theorem State.mapCtx_window (s : State) (f : Master → Context → Context) (i : WindowIx) : (s.mapCtx f).window i = s.window i := by
  simp only [State.window, State.mapCtx]

/-! What `State.updCtx` leaves unchanged. -/

@[simp] theorem State.updCtx_windows (s : State) (m : Master) (f : Context → Context) : (s.updCtx m f).windows = s.windows := by
  simp only [State.updCtx, State.mapCtx]
@[simp] theorem State.updCtx_mon (s : State) (m : Master) (f : Context → Context) : (s.updCtx m f).mon = s.mon := by
  simp only [State.updCtx, State.mapCtx]
@[simp] theorem State.updCtx_sampleCode (s : State) (m : Master) (f : Context → Context) : (s.updCtx m f).sampleCode = s.sampleCode := by
  simp only [State.updCtx, State.mapCtx]
@[simp] theorem State.updCtx_mask (s : State) (m : Master) (f : Context → Context) : (s.updCtx m f).mask = s.mask := by
  simp only [State.updCtx, State.mapCtx]
@[simp] theorem State.updCtx_flight (s : State) (m : Master) (f : Context → Context) : (s.updCtx m f).flight = s.flight := by
  simp only [State.updCtx, State.mapCtx]
@[simp] theorem State.updCtx_hazard (s : State) (m : Master) (f : Context → Context) : (s.updCtx m f).hazard = s.hazard := by
  simp only [State.updCtx, State.mapCtx]
@[simp] theorem State.updCtx_nomon (s : State) (m : Master) (f : Context → Context) : (s.updCtx m f).nomon = s.nomon := by
  simp only [State.updCtx, State.mapCtx]
@[simp] theorem State.updCtx_released (s : State) (m : Master) (f : Context → Context) : (s.updCtx m f).released = s.released := by
  simp only [State.updCtx, State.mapCtx]
@[simp] theorem State.updCtx_contention (s : State) (m : Master) (f : Context → Context) : (s.updCtx m f).contention = s.contention := by
  simp only [State.updCtx, State.mapCtx]
@[simp] theorem State.updCtx_replies (s : State) (m : Master) (f : Context → Context) : (s.updCtx m f).replies = s.replies := by
  simp only [State.updCtx, State.mapCtx]
@[simp] theorem State.updCtx_notices (s : State) (m : Master) (f : Context → Context) : (s.updCtx m f).notices = s.notices := by
  simp only [State.updCtx, State.mapCtx]
@[simp] theorem State.updCtx_overflow (s : State) (m : Master) (f : Context → Context) : (s.updCtx m f).overflow = s.overflow := by
  simp only [State.updCtx, State.mapCtx]
@[simp] theorem State.updCtx_discardMark (s : State) (m : Master) (f : Context → Context) : (s.updCtx m f).discardMark = s.discardMark := by
  simp only [State.updCtx, State.mapCtx]
@[simp] theorem State.updCtx_link (s : State) (m : Master) (f : Context → Context) : (s.updCtx m f).link = s.link := by
  simp only [State.updCtx, State.mapCtx]
@[simp] theorem State.updCtx_sampleTimer (s : State) (m : Master) (f : Context → Context) : (s.updCtx m f).sampleTimer = s.sampleTimer := by
  simp only [State.updCtx, State.mapCtx]
@[simp] theorem State.updCtx_sampleLength (s : State) (m : Master) (f : Context → Context) : (s.updCtx m f).sampleLength = s.sampleLength := by
  simp only [State.updCtx, State.mapCtx]
@[simp] theorem State.updCtx_atExpiry (s : State) (m : Master) (f : Context → Context) : (s.updCtx m f).atExpiry = s.atExpiry := by
  simp only [State.updCtx, State.mapCtx]
@[simp] theorem State.updCtx_unitCounter (s : State) (m : Master) (f : Context → Context) : (s.updCtx m f).unitCounter = s.unitCounter := by
  simp only [State.updCtx, State.mapCtx]
@[simp] theorem State.updCtx_refclkRunning (s : State) (m : Master) (f : Context → Context) : (s.updCtx m f).refclkRunning = s.refclkRunning := by
  simp only [State.updCtx, State.mapCtx]
@[simp] theorem State.updCtx_resetLow (s : State) (m : Master) (f : Context → Context) : (s.updCtx m f).resetLow = s.resetLow := by
  simp only [State.updCtx, State.mapCtx]
@[simp] theorem State.updCtx_inReset (s : State) (m : Master) (f : Context → Context) : (s.updCtx m f).inReset = s.inReset := by
  simp only [State.updCtx, State.mapCtx]
@[simp] theorem State.updCtx_out (s : State) (m : Master) (f : Context → Context) : (s.updCtx m f).out = s.out := by
  simp only [State.updCtx, State.mapCtx]
@[simp] theorem State.updCtx_draws (s : State) (m : Master) (f : Context → Context) : (s.updCtx m f).draws = s.draws := by
  simp only [State.updCtx, State.mapCtx]
@[simp] theorem State.updCtx_pending (s : State) (m : Master) (f : Context → Context) : (s.updCtx m f).pending = s.pending := by
  simp only [State.updCtx, State.mapCtx]
@[simp] theorem State.updCtx_entry (s : State) (m : Master) (f : Context → Context) (i : EntryIx) : (s.updCtx m f).entry i = s.entry i := by
  simp only [State.entry, State.updCtx, State.mapCtx]
@[simp] theorem State.updCtx_window (s : State) (m : Master) (f : Context → Context) (i : WindowIx) : (s.updCtx m f).window i = s.window i := by
  simp only [State.window, State.updCtx, State.mapCtx]

/-! What `State.mapEntries` leaves unchanged. -/

@[simp] theorem State.mapEntries_windows (s : State) (f : EntryIx → Entry → Entry) : (s.mapEntries f).windows = s.windows := by
  simp only [State.mapEntries]
@[simp] theorem State.mapEntries_mon (s : State) (f : EntryIx → Entry → Entry) : (s.mapEntries f).mon = s.mon := by
  simp only [State.mapEntries]
@[simp] theorem State.mapEntries_sampleCode (s : State) (f : EntryIx → Entry → Entry) : (s.mapEntries f).sampleCode = s.sampleCode := by
  simp only [State.mapEntries]
@[simp] theorem State.mapEntries_mask (s : State) (f : EntryIx → Entry → Entry) : (s.mapEntries f).mask = s.mask := by
  simp only [State.mapEntries]
@[simp] theorem State.mapEntries_contexts (s : State) (f : EntryIx → Entry → Entry) : (s.mapEntries f).contexts = s.contexts := by
  simp only [State.mapEntries]
@[simp] theorem State.mapEntries_flight (s : State) (f : EntryIx → Entry → Entry) : (s.mapEntries f).flight = s.flight := by
  simp only [State.mapEntries]
@[simp] theorem State.mapEntries_hazard (s : State) (f : EntryIx → Entry → Entry) : (s.mapEntries f).hazard = s.hazard := by
  simp only [State.mapEntries]
@[simp] theorem State.mapEntries_nomon (s : State) (f : EntryIx → Entry → Entry) : (s.mapEntries f).nomon = s.nomon := by
  simp only [State.mapEntries]
@[simp] theorem State.mapEntries_released (s : State) (f : EntryIx → Entry → Entry) : (s.mapEntries f).released = s.released := by
  simp only [State.mapEntries]
@[simp] theorem State.mapEntries_replies (s : State) (f : EntryIx → Entry → Entry) : (s.mapEntries f).replies = s.replies := by
  simp only [State.mapEntries]
@[simp] theorem State.mapEntries_notices (s : State) (f : EntryIx → Entry → Entry) : (s.mapEntries f).notices = s.notices := by
  simp only [State.mapEntries]
@[simp] theorem State.mapEntries_overflow (s : State) (f : EntryIx → Entry → Entry) : (s.mapEntries f).overflow = s.overflow := by
  simp only [State.mapEntries]
@[simp] theorem State.mapEntries_discardMark (s : State) (f : EntryIx → Entry → Entry) : (s.mapEntries f).discardMark = s.discardMark := by
  simp only [State.mapEntries]
@[simp] theorem State.mapEntries_link (s : State) (f : EntryIx → Entry → Entry) : (s.mapEntries f).link = s.link := by
  simp only [State.mapEntries]
@[simp] theorem State.mapEntries_sampleTimer (s : State) (f : EntryIx → Entry → Entry) : (s.mapEntries f).sampleTimer = s.sampleTimer := by
  simp only [State.mapEntries]
@[simp] theorem State.mapEntries_sampleLength (s : State) (f : EntryIx → Entry → Entry) : (s.mapEntries f).sampleLength = s.sampleLength := by
  simp only [State.mapEntries]
@[simp] theorem State.mapEntries_atExpiry (s : State) (f : EntryIx → Entry → Entry) : (s.mapEntries f).atExpiry = s.atExpiry := by
  simp only [State.mapEntries]
@[simp] theorem State.mapEntries_unitCounter (s : State) (f : EntryIx → Entry → Entry) : (s.mapEntries f).unitCounter = s.unitCounter := by
  simp only [State.mapEntries]
@[simp] theorem State.mapEntries_refclkRunning (s : State) (f : EntryIx → Entry → Entry) : (s.mapEntries f).refclkRunning = s.refclkRunning := by
  simp only [State.mapEntries]
@[simp] theorem State.mapEntries_resetLow (s : State) (f : EntryIx → Entry → Entry) : (s.mapEntries f).resetLow = s.resetLow := by
  simp only [State.mapEntries]
@[simp] theorem State.mapEntries_inReset (s : State) (f : EntryIx → Entry → Entry) : (s.mapEntries f).inReset = s.inReset := by
  simp only [State.mapEntries]
@[simp] theorem State.mapEntries_out (s : State) (f : EntryIx → Entry → Entry) : (s.mapEntries f).out = s.out := by
  simp only [State.mapEntries]
@[simp] theorem State.mapEntries_draws (s : State) (f : EntryIx → Entry → Entry) : (s.mapEntries f).draws = s.draws := by
  simp only [State.mapEntries]
@[simp] theorem State.mapEntries_pending (s : State) (f : EntryIx → Entry → Entry) : (s.mapEntries f).pending = s.pending := by
  simp only [State.mapEntries]
@[simp] theorem State.mapEntries_ctx (s : State) (f : EntryIx → Entry → Entry) (i : Master) : (s.mapEntries f).ctx i = s.ctx i := by
  simp only [State.ctx, State.mapEntries]
@[simp] theorem State.mapEntries_window (s : State) (f : EntryIx → Entry → Entry) (i : WindowIx) : (s.mapEntries f).window i = s.window i := by
  simp only [State.window, State.mapEntries]

/-! What `State.updEntry` leaves unchanged. -/

@[simp] theorem State.updEntry_windows (s : State) (e : EntryIx) (f : Entry → Entry) : (s.updEntry e f).windows = s.windows := by
  simp only [State.updEntry, State.mapEntries]
@[simp] theorem State.updEntry_mon (s : State) (e : EntryIx) (f : Entry → Entry) : (s.updEntry e f).mon = s.mon := by
  simp only [State.updEntry, State.mapEntries]
@[simp] theorem State.updEntry_sampleCode (s : State) (e : EntryIx) (f : Entry → Entry) : (s.updEntry e f).sampleCode = s.sampleCode := by
  simp only [State.updEntry, State.mapEntries]
@[simp] theorem State.updEntry_mask (s : State) (e : EntryIx) (f : Entry → Entry) : (s.updEntry e f).mask = s.mask := by
  simp only [State.updEntry, State.mapEntries]
@[simp] theorem State.updEntry_contexts (s : State) (e : EntryIx) (f : Entry → Entry) : (s.updEntry e f).contexts = s.contexts := by
  simp only [State.updEntry, State.mapEntries]
@[simp] theorem State.updEntry_flight (s : State) (e : EntryIx) (f : Entry → Entry) : (s.updEntry e f).flight = s.flight := by
  simp only [State.updEntry, State.mapEntries]
@[simp] theorem State.updEntry_hazard (s : State) (e : EntryIx) (f : Entry → Entry) : (s.updEntry e f).hazard = s.hazard := by
  simp only [State.updEntry, State.mapEntries]
@[simp] theorem State.updEntry_nomon (s : State) (e : EntryIx) (f : Entry → Entry) : (s.updEntry e f).nomon = s.nomon := by
  simp only [State.updEntry, State.mapEntries]
@[simp] theorem State.updEntry_released (s : State) (e : EntryIx) (f : Entry → Entry) : (s.updEntry e f).released = s.released := by
  simp only [State.updEntry, State.mapEntries]
@[simp] theorem State.updEntry_replies (s : State) (e : EntryIx) (f : Entry → Entry) : (s.updEntry e f).replies = s.replies := by
  simp only [State.updEntry, State.mapEntries]
@[simp] theorem State.updEntry_notices (s : State) (e : EntryIx) (f : Entry → Entry) : (s.updEntry e f).notices = s.notices := by
  simp only [State.updEntry, State.mapEntries]
@[simp] theorem State.updEntry_overflow (s : State) (e : EntryIx) (f : Entry → Entry) : (s.updEntry e f).overflow = s.overflow := by
  simp only [State.updEntry, State.mapEntries]
@[simp] theorem State.updEntry_discardMark (s : State) (e : EntryIx) (f : Entry → Entry) : (s.updEntry e f).discardMark = s.discardMark := by
  simp only [State.updEntry, State.mapEntries]
@[simp] theorem State.updEntry_link (s : State) (e : EntryIx) (f : Entry → Entry) : (s.updEntry e f).link = s.link := by
  simp only [State.updEntry, State.mapEntries]
@[simp] theorem State.updEntry_sampleTimer (s : State) (e : EntryIx) (f : Entry → Entry) : (s.updEntry e f).sampleTimer = s.sampleTimer := by
  simp only [State.updEntry, State.mapEntries]
@[simp] theorem State.updEntry_sampleLength (s : State) (e : EntryIx) (f : Entry → Entry) : (s.updEntry e f).sampleLength = s.sampleLength := by
  simp only [State.updEntry, State.mapEntries]
@[simp] theorem State.updEntry_atExpiry (s : State) (e : EntryIx) (f : Entry → Entry) : (s.updEntry e f).atExpiry = s.atExpiry := by
  simp only [State.updEntry, State.mapEntries]
@[simp] theorem State.updEntry_unitCounter (s : State) (e : EntryIx) (f : Entry → Entry) : (s.updEntry e f).unitCounter = s.unitCounter := by
  simp only [State.updEntry, State.mapEntries]
@[simp] theorem State.updEntry_refclkRunning (s : State) (e : EntryIx) (f : Entry → Entry) : (s.updEntry e f).refclkRunning = s.refclkRunning := by
  simp only [State.updEntry, State.mapEntries]
@[simp] theorem State.updEntry_resetLow (s : State) (e : EntryIx) (f : Entry → Entry) : (s.updEntry e f).resetLow = s.resetLow := by
  simp only [State.updEntry, State.mapEntries]
@[simp] theorem State.updEntry_inReset (s : State) (e : EntryIx) (f : Entry → Entry) : (s.updEntry e f).inReset = s.inReset := by
  simp only [State.updEntry, State.mapEntries]
@[simp] theorem State.updEntry_out (s : State) (e : EntryIx) (f : Entry → Entry) : (s.updEntry e f).out = s.out := by
  simp only [State.updEntry, State.mapEntries]
@[simp] theorem State.updEntry_draws (s : State) (e : EntryIx) (f : Entry → Entry) : (s.updEntry e f).draws = s.draws := by
  simp only [State.updEntry, State.mapEntries]
@[simp] theorem State.updEntry_pending (s : State) (e : EntryIx) (f : Entry → Entry) : (s.updEntry e f).pending = s.pending := by
  simp only [State.updEntry, State.mapEntries]
@[simp] theorem State.updEntry_ctx (s : State) (e : EntryIx) (f : Entry → Entry) (i : Master) : (s.updEntry e f).ctx i = s.ctx i := by
  simp only [State.ctx, State.updEntry, State.mapEntries]
@[simp] theorem State.updEntry_window (s : State) (e : EntryIx) (f : Entry → Entry) (i : WindowIx) : (s.updEntry e f).window i = s.window i := by
  simp only [State.window, State.updEntry, State.mapEntries]

/-! What `State.setNomon` leaves unchanged. -/

@[simp] theorem State.setNomon_windows (s : State) (m : Master) (t : Tag) (b : Bool) : (s.setNomon m t b).windows = s.windows := rfl
@[simp] theorem State.setNomon_mon (s : State) (m : Master) (t : Tag) (b : Bool) : (s.setNomon m t b).mon = s.mon := rfl
@[simp] theorem State.setNomon_sampleCode (s : State) (m : Master) (t : Tag) (b : Bool) : (s.setNomon m t b).sampleCode = s.sampleCode := rfl
@[simp] theorem State.setNomon_mask (s : State) (m : Master) (t : Tag) (b : Bool) : (s.setNomon m t b).mask = s.mask := rfl
@[simp] theorem State.setNomon_contexts (s : State) (m : Master) (t : Tag) (b : Bool) : (s.setNomon m t b).contexts = s.contexts := rfl
@[simp] theorem State.setNomon_flight (s : State) (m : Master) (t : Tag) (b : Bool) : (s.setNomon m t b).flight = s.flight := rfl
@[simp] theorem State.setNomon_hazard (s : State) (m : Master) (t : Tag) (b : Bool) : (s.setNomon m t b).hazard = s.hazard := rfl
@[simp] theorem State.setNomon_released (s : State) (m : Master) (t : Tag) (b : Bool) : (s.setNomon m t b).released = s.released := rfl
@[simp] theorem State.setNomon_contention (s : State) (m : Master) (t : Tag) (b : Bool) : (s.setNomon m t b).contention = s.contention := rfl
@[simp] theorem State.setNomon_replies (s : State) (m : Master) (t : Tag) (b : Bool) : (s.setNomon m t b).replies = s.replies := rfl
@[simp] theorem State.setNomon_notices (s : State) (m : Master) (t : Tag) (b : Bool) : (s.setNomon m t b).notices = s.notices := rfl
@[simp] theorem State.setNomon_overflow (s : State) (m : Master) (t : Tag) (b : Bool) : (s.setNomon m t b).overflow = s.overflow := rfl
@[simp] theorem State.setNomon_discardMark (s : State) (m : Master) (t : Tag) (b : Bool) : (s.setNomon m t b).discardMark = s.discardMark := rfl
@[simp] theorem State.setNomon_link (s : State) (m : Master) (t : Tag) (b : Bool) : (s.setNomon m t b).link = s.link := rfl
@[simp] theorem State.setNomon_sampleTimer (s : State) (m : Master) (t : Tag) (b : Bool) : (s.setNomon m t b).sampleTimer = s.sampleTimer := rfl
@[simp] theorem State.setNomon_sampleLength (s : State) (m : Master) (t : Tag) (b : Bool) : (s.setNomon m t b).sampleLength = s.sampleLength := rfl
@[simp] theorem State.setNomon_atExpiry (s : State) (m : Master) (t : Tag) (b : Bool) : (s.setNomon m t b).atExpiry = s.atExpiry := rfl
@[simp] theorem State.setNomon_unitCounter (s : State) (m : Master) (t : Tag) (b : Bool) : (s.setNomon m t b).unitCounter = s.unitCounter := rfl
@[simp] theorem State.setNomon_refclkRunning (s : State) (m : Master) (t : Tag) (b : Bool) : (s.setNomon m t b).refclkRunning = s.refclkRunning := rfl
@[simp] theorem State.setNomon_resetLow (s : State) (m : Master) (t : Tag) (b : Bool) : (s.setNomon m t b).resetLow = s.resetLow := rfl
@[simp] theorem State.setNomon_inReset (s : State) (m : Master) (t : Tag) (b : Bool) : (s.setNomon m t b).inReset = s.inReset := rfl
@[simp] theorem State.setNomon_out (s : State) (m : Master) (t : Tag) (b : Bool) : (s.setNomon m t b).out = s.out := rfl
@[simp] theorem State.setNomon_draws (s : State) (m : Master) (t : Tag) (b : Bool) : (s.setNomon m t b).draws = s.draws := rfl
@[simp] theorem State.setNomon_pending (s : State) (m : Master) (t : Tag) (b : Bool) : (s.setNomon m t b).pending = s.pending := rfl
@[simp] theorem State.setNomon_ctx (s : State) (m : Master) (t : Tag) (b : Bool) (i : Master) : (s.setNomon m t b).ctx i = s.ctx i := rfl
@[simp] theorem State.setNomon_entry (s : State) (m : Master) (t : Tag) (b : Bool) (i : EntryIx) : (s.setNomon m t b).entry i = s.entry i := rfl
@[simp] theorem State.setNomon_window (s : State) (m : Master) (t : Tag) (b : Bool) (i : WindowIx) : (s.setNomon m t b).window i = s.window i := rfl

/-! What `State.quiet` leaves unchanged. -/

@[simp] theorem State.quiet_windows (s : State) : (s.quiet).windows = s.windows := rfl
@[simp] theorem State.quiet_mon (s : State) : (s.quiet).mon = s.mon := rfl
@[simp] theorem State.quiet_sampleCode (s : State) : (s.quiet).sampleCode = s.sampleCode := rfl
@[simp] theorem State.quiet_mask (s : State) : (s.quiet).mask = s.mask := rfl
@[simp] theorem State.quiet_contexts (s : State) : (s.quiet).contexts = s.contexts := rfl
@[simp] theorem State.quiet_flight (s : State) : (s.quiet).flight = s.flight := rfl
@[simp] theorem State.quiet_hazard (s : State) : (s.quiet).hazard = s.hazard := rfl
@[simp] theorem State.quiet_nomon (s : State) : (s.quiet).nomon = s.nomon := rfl
@[simp] theorem State.quiet_released (s : State) : (s.quiet).released = s.released := rfl
@[simp] theorem State.quiet_contention (s : State) : (s.quiet).contention = s.contention := rfl
@[simp] theorem State.quiet_replies (s : State) : (s.quiet).replies = s.replies := rfl
@[simp] theorem State.quiet_notices (s : State) : (s.quiet).notices = s.notices := rfl
@[simp] theorem State.quiet_overflow (s : State) : (s.quiet).overflow = s.overflow := rfl
@[simp] theorem State.quiet_discardMark (s : State) : (s.quiet).discardMark = s.discardMark := rfl
@[simp] theorem State.quiet_link (s : State) : (s.quiet).link = s.link := rfl
@[simp] theorem State.quiet_sampleTimer (s : State) : (s.quiet).sampleTimer = s.sampleTimer := rfl
@[simp] theorem State.quiet_sampleLength (s : State) : (s.quiet).sampleLength = s.sampleLength := rfl
@[simp] theorem State.quiet_atExpiry (s : State) : (s.quiet).atExpiry = s.atExpiry := rfl
@[simp] theorem State.quiet_unitCounter (s : State) : (s.quiet).unitCounter = s.unitCounter := rfl
@[simp] theorem State.quiet_refclkRunning (s : State) : (s.quiet).refclkRunning = s.refclkRunning := rfl
@[simp] theorem State.quiet_resetLow (s : State) : (s.quiet).resetLow = s.resetLow := rfl
@[simp] theorem State.quiet_inReset (s : State) : (s.quiet).inReset = s.inReset := rfl
@[simp] theorem State.quiet_draws (s : State) : (s.quiet).draws = s.draws := rfl
@[simp] theorem State.quiet_pending (s : State) : (s.quiet).pending = s.pending := rfl
@[simp] theorem State.quiet_ctx (s : State) (i : Master) : (s.quiet).ctx i = s.ctx i := rfl
@[simp] theorem State.quiet_entry (s : State) (i : EntryIx) : (s.quiet).entry i = s.entry i := rfl
@[simp] theorem State.quiet_window (s : State) (i : WindowIx) : (s.quiet).window i = s.window i := rfl

/-! What `State.took` leaves unchanged. -/

@[simp] theorem State.took_windows (s : State) : (s.took).windows = s.windows := rfl
@[simp] theorem State.took_mon (s : State) : (s.took).mon = s.mon := rfl
@[simp] theorem State.took_sampleCode (s : State) : (s.took).sampleCode = s.sampleCode := rfl
@[simp] theorem State.took_mask (s : State) : (s.took).mask = s.mask := rfl
@[simp] theorem State.took_contexts (s : State) : (s.took).contexts = s.contexts := rfl
@[simp] theorem State.took_flight (s : State) : (s.took).flight = s.flight := rfl
@[simp] theorem State.took_hazard (s : State) : (s.took).hazard = s.hazard := rfl
@[simp] theorem State.took_nomon (s : State) : (s.took).nomon = s.nomon := rfl
@[simp] theorem State.took_released (s : State) : (s.took).released = s.released := rfl
@[simp] theorem State.took_contention (s : State) : (s.took).contention = s.contention := rfl
@[simp] theorem State.took_replies (s : State) : (s.took).replies = s.replies := rfl
@[simp] theorem State.took_notices (s : State) : (s.took).notices = s.notices := rfl
@[simp] theorem State.took_overflow (s : State) : (s.took).overflow = s.overflow := rfl
@[simp] theorem State.took_discardMark (s : State) : (s.took).discardMark = s.discardMark := rfl
@[simp] theorem State.took_link (s : State) : (s.took).link = s.link := rfl
@[simp] theorem State.took_sampleTimer (s : State) : (s.took).sampleTimer = s.sampleTimer := rfl
@[simp] theorem State.took_sampleLength (s : State) : (s.took).sampleLength = s.sampleLength := rfl
@[simp] theorem State.took_atExpiry (s : State) : (s.took).atExpiry = s.atExpiry := rfl
@[simp] theorem State.took_unitCounter (s : State) : (s.took).unitCounter = s.unitCounter := rfl
@[simp] theorem State.took_refclkRunning (s : State) : (s.took).refclkRunning = s.refclkRunning := rfl
@[simp] theorem State.took_resetLow (s : State) : (s.took).resetLow = s.resetLow := rfl
@[simp] theorem State.took_inReset (s : State) : (s.took).inReset = s.inReset := rfl
@[simp] theorem State.took_draws (s : State) : (s.took).draws = s.draws := rfl
@[simp] theorem State.took_pending (s : State) : (s.took).pending = s.pending := rfl
@[simp] theorem State.took_ctx (s : State) (i : Master) : (s.took).ctx i = s.ctx i := rfl
@[simp] theorem State.took_entry (s : State) (i : EntryIx) : (s.took).entry i = s.entry i := rfl
@[simp] theorem State.took_window (s : State) (i : WindowIx) : (s.took).window i = s.window i := rfl

/-! What `State.forwarded` leaves unchanged. -/

@[simp] theorem State.forwarded_windows (s : State) (r : FarRequest) : (s.forwarded r).windows = s.windows := rfl
@[simp] theorem State.forwarded_mon (s : State) (r : FarRequest) : (s.forwarded r).mon = s.mon := rfl
@[simp] theorem State.forwarded_sampleCode (s : State) (r : FarRequest) : (s.forwarded r).sampleCode = s.sampleCode := rfl
@[simp] theorem State.forwarded_mask (s : State) (r : FarRequest) : (s.forwarded r).mask = s.mask := rfl
@[simp] theorem State.forwarded_contexts (s : State) (r : FarRequest) : (s.forwarded r).contexts = s.contexts := rfl
@[simp] theorem State.forwarded_flight (s : State) (r : FarRequest) : (s.forwarded r).flight = s.flight := rfl
@[simp] theorem State.forwarded_hazard (s : State) (r : FarRequest) : (s.forwarded r).hazard = s.hazard := rfl
@[simp] theorem State.forwarded_nomon (s : State) (r : FarRequest) : (s.forwarded r).nomon = s.nomon := rfl
@[simp] theorem State.forwarded_released (s : State) (r : FarRequest) : (s.forwarded r).released = s.released := rfl
@[simp] theorem State.forwarded_contention (s : State) (r : FarRequest) : (s.forwarded r).contention = s.contention := rfl
@[simp] theorem State.forwarded_replies (s : State) (r : FarRequest) : (s.forwarded r).replies = s.replies := rfl
@[simp] theorem State.forwarded_notices (s : State) (r : FarRequest) : (s.forwarded r).notices = s.notices := rfl
@[simp] theorem State.forwarded_overflow (s : State) (r : FarRequest) : (s.forwarded r).overflow = s.overflow := rfl
@[simp] theorem State.forwarded_discardMark (s : State) (r : FarRequest) : (s.forwarded r).discardMark = s.discardMark := rfl
@[simp] theorem State.forwarded_link (s : State) (r : FarRequest) : (s.forwarded r).link = s.link := rfl
@[simp] theorem State.forwarded_sampleTimer (s : State) (r : FarRequest) : (s.forwarded r).sampleTimer = s.sampleTimer := rfl
@[simp] theorem State.forwarded_sampleLength (s : State) (r : FarRequest) : (s.forwarded r).sampleLength = s.sampleLength := rfl
@[simp] theorem State.forwarded_atExpiry (s : State) (r : FarRequest) : (s.forwarded r).atExpiry = s.atExpiry := rfl
@[simp] theorem State.forwarded_unitCounter (s : State) (r : FarRequest) : (s.forwarded r).unitCounter = s.unitCounter := rfl
@[simp] theorem State.forwarded_refclkRunning (s : State) (r : FarRequest) : (s.forwarded r).refclkRunning = s.refclkRunning := rfl
@[simp] theorem State.forwarded_resetLow (s : State) (r : FarRequest) : (s.forwarded r).resetLow = s.resetLow := rfl
@[simp] theorem State.forwarded_inReset (s : State) (r : FarRequest) : (s.forwarded r).inReset = s.inReset := rfl
@[simp] theorem State.forwarded_draws (s : State) (r : FarRequest) : (s.forwarded r).draws = s.draws := rfl
@[simp] theorem State.forwarded_pending (s : State) (r : FarRequest) : (s.forwarded r).pending = s.pending := rfl
@[simp] theorem State.forwarded_ctx (s : State) (r : FarRequest) (i : Master) : (s.forwarded r).ctx i = s.ctx i := rfl
@[simp] theorem State.forwarded_entry (s : State) (r : FarRequest) (i : EntryIx) : (s.forwarded r).entry i = s.entry i := rfl
@[simp] theorem State.forwarded_window (s : State) (r : FarRequest) (i : WindowIx) : (s.forwarded r).window i = s.window i := rfl

/-! What `State.replied` leaves unchanged. -/

@[simp] theorem State.replied_windows (s : State) (r : NearReply) : (s.replied r).windows = s.windows := rfl
@[simp] theorem State.replied_mon (s : State) (r : NearReply) : (s.replied r).mon = s.mon := rfl
@[simp] theorem State.replied_sampleCode (s : State) (r : NearReply) : (s.replied r).sampleCode = s.sampleCode := rfl
@[simp] theorem State.replied_mask (s : State) (r : NearReply) : (s.replied r).mask = s.mask := rfl
@[simp] theorem State.replied_contexts (s : State) (r : NearReply) : (s.replied r).contexts = s.contexts := rfl
@[simp] theorem State.replied_flight (s : State) (r : NearReply) : (s.replied r).flight = s.flight := rfl
@[simp] theorem State.replied_hazard (s : State) (r : NearReply) : (s.replied r).hazard = s.hazard := rfl
@[simp] theorem State.replied_nomon (s : State) (r : NearReply) : (s.replied r).nomon = s.nomon := rfl
@[simp] theorem State.replied_released (s : State) (r : NearReply) : (s.replied r).released = s.released := rfl
@[simp] theorem State.replied_contention (s : State) (r : NearReply) : (s.replied r).contention = s.contention := rfl
@[simp] theorem State.replied_replies (s : State) (r : NearReply) : (s.replied r).replies = s.replies := rfl
@[simp] theorem State.replied_notices (s : State) (r : NearReply) : (s.replied r).notices = s.notices := rfl
@[simp] theorem State.replied_overflow (s : State) (r : NearReply) : (s.replied r).overflow = s.overflow := rfl
@[simp] theorem State.replied_discardMark (s : State) (r : NearReply) : (s.replied r).discardMark = s.discardMark := rfl
@[simp] theorem State.replied_link (s : State) (r : NearReply) : (s.replied r).link = s.link := rfl
@[simp] theorem State.replied_sampleTimer (s : State) (r : NearReply) : (s.replied r).sampleTimer = s.sampleTimer := rfl
@[simp] theorem State.replied_sampleLength (s : State) (r : NearReply) : (s.replied r).sampleLength = s.sampleLength := rfl
@[simp] theorem State.replied_atExpiry (s : State) (r : NearReply) : (s.replied r).atExpiry = s.atExpiry := rfl
@[simp] theorem State.replied_unitCounter (s : State) (r : NearReply) : (s.replied r).unitCounter = s.unitCounter := rfl
@[simp] theorem State.replied_refclkRunning (s : State) (r : NearReply) : (s.replied r).refclkRunning = s.refclkRunning := rfl
@[simp] theorem State.replied_resetLow (s : State) (r : NearReply) : (s.replied r).resetLow = s.resetLow := rfl
@[simp] theorem State.replied_inReset (s : State) (r : NearReply) : (s.replied r).inReset = s.inReset := rfl
@[simp] theorem State.replied_draws (s : State) (r : NearReply) : (s.replied r).draws = s.draws := rfl
@[simp] theorem State.replied_pending (s : State) (r : NearReply) : (s.replied r).pending = s.pending := rfl
@[simp] theorem State.replied_ctx (s : State) (r : NearReply) (i : Master) : (s.replied r).ctx i = s.ctx i := rfl
@[simp] theorem State.replied_entry (s : State) (r : NearReply) (i : EntryIx) : (s.replied r).entry i = s.entry i := rfl
@[simp] theorem State.replied_window (s : State) (r : NearReply) (i : WindowIx) : (s.replied r).window i = s.window i := rfl

/-! What `State.enqueue` leaves unchanged. -/

@[simp] theorem State.enqueue_windows (s : State) (m : Master) (t : Tag) (st : ReplyStatus) : (s.enqueue m t st).windows = s.windows := rfl
@[simp] theorem State.enqueue_mon (s : State) (m : Master) (t : Tag) (st : ReplyStatus) : (s.enqueue m t st).mon = s.mon := rfl
@[simp] theorem State.enqueue_sampleCode (s : State) (m : Master) (t : Tag) (st : ReplyStatus) : (s.enqueue m t st).sampleCode = s.sampleCode := rfl
@[simp] theorem State.enqueue_mask (s : State) (m : Master) (t : Tag) (st : ReplyStatus) : (s.enqueue m t st).mask = s.mask := rfl
@[simp] theorem State.enqueue_contexts (s : State) (m : Master) (t : Tag) (st : ReplyStatus) : (s.enqueue m t st).contexts = s.contexts := rfl
@[simp] theorem State.enqueue_flight (s : State) (m : Master) (t : Tag) (st : ReplyStatus) : (s.enqueue m t st).flight = s.flight := rfl
@[simp] theorem State.enqueue_hazard (s : State) (m : Master) (t : Tag) (st : ReplyStatus) : (s.enqueue m t st).hazard = s.hazard := rfl
@[simp] theorem State.enqueue_nomon (s : State) (m : Master) (t : Tag) (st : ReplyStatus) : (s.enqueue m t st).nomon = s.nomon := rfl
@[simp] theorem State.enqueue_released (s : State) (m : Master) (t : Tag) (st : ReplyStatus) : (s.enqueue m t st).released = s.released := rfl
@[simp] theorem State.enqueue_contention (s : State) (m : Master) (t : Tag) (st : ReplyStatus) : (s.enqueue m t st).contention = s.contention := rfl
@[simp] theorem State.enqueue_notices (s : State) (m : Master) (t : Tag) (st : ReplyStatus) : (s.enqueue m t st).notices = s.notices := rfl
@[simp] theorem State.enqueue_overflow (s : State) (m : Master) (t : Tag) (st : ReplyStatus) : (s.enqueue m t st).overflow = s.overflow := rfl
@[simp] theorem State.enqueue_discardMark (s : State) (m : Master) (t : Tag) (st : ReplyStatus) : (s.enqueue m t st).discardMark = s.discardMark := rfl
@[simp] theorem State.enqueue_link (s : State) (m : Master) (t : Tag) (st : ReplyStatus) : (s.enqueue m t st).link = s.link := rfl
@[simp] theorem State.enqueue_sampleTimer (s : State) (m : Master) (t : Tag) (st : ReplyStatus) : (s.enqueue m t st).sampleTimer = s.sampleTimer := rfl
@[simp] theorem State.enqueue_sampleLength (s : State) (m : Master) (t : Tag) (st : ReplyStatus) : (s.enqueue m t st).sampleLength = s.sampleLength := rfl
@[simp] theorem State.enqueue_atExpiry (s : State) (m : Master) (t : Tag) (st : ReplyStatus) : (s.enqueue m t st).atExpiry = s.atExpiry := rfl
@[simp] theorem State.enqueue_unitCounter (s : State) (m : Master) (t : Tag) (st : ReplyStatus) : (s.enqueue m t st).unitCounter = s.unitCounter := rfl
@[simp] theorem State.enqueue_refclkRunning (s : State) (m : Master) (t : Tag) (st : ReplyStatus) : (s.enqueue m t st).refclkRunning = s.refclkRunning := rfl
@[simp] theorem State.enqueue_resetLow (s : State) (m : Master) (t : Tag) (st : ReplyStatus) : (s.enqueue m t st).resetLow = s.resetLow := rfl
@[simp] theorem State.enqueue_inReset (s : State) (m : Master) (t : Tag) (st : ReplyStatus) : (s.enqueue m t st).inReset = s.inReset := rfl
@[simp] theorem State.enqueue_out (s : State) (m : Master) (t : Tag) (st : ReplyStatus) : (s.enqueue m t st).out = s.out := rfl
@[simp] theorem State.enqueue_draws (s : State) (m : Master) (t : Tag) (st : ReplyStatus) : (s.enqueue m t st).draws = s.draws := rfl
@[simp] theorem State.enqueue_pending (s : State) (m : Master) (t : Tag) (st : ReplyStatus) : (s.enqueue m t st).pending = s.pending := rfl
@[simp] theorem State.enqueue_ctx (s : State) (m : Master) (t : Tag) (st : ReplyStatus) (i : Master) : (s.enqueue m t st).ctx i = s.ctx i := rfl
@[simp] theorem State.enqueue_entry (s : State) (m : Master) (t : Tag) (st : ReplyStatus) (i : EntryIx) : (s.enqueue m t st).entry i = s.entry i := rfl
@[simp] theorem State.enqueue_window (s : State) (m : Master) (t : Tag) (st : ReplyStatus) (i : WindowIx) : (s.enqueue m t st).window i = s.window i := rfl

/-! What `State.track` leaves unchanged. -/

@[simp] theorem State.track_windows (s : State) (f : Flight) : (s.track f).windows = s.windows := rfl
@[simp] theorem State.track_mon (s : State) (f : Flight) : (s.track f).mon = s.mon := rfl
@[simp] theorem State.track_sampleCode (s : State) (f : Flight) : (s.track f).sampleCode = s.sampleCode := rfl
@[simp] theorem State.track_mask (s : State) (f : Flight) : (s.track f).mask = s.mask := rfl
@[simp] theorem State.track_contexts (s : State) (f : Flight) : (s.track f).contexts = s.contexts := rfl
@[simp] theorem State.track_hazard (s : State) (f : Flight) : (s.track f).hazard = s.hazard := rfl
@[simp] theorem State.track_nomon (s : State) (f : Flight) : (s.track f).nomon = s.nomon := rfl
@[simp] theorem State.track_released (s : State) (f : Flight) : (s.track f).released = s.released := rfl
@[simp] theorem State.track_contention (s : State) (f : Flight) : (s.track f).contention = s.contention := rfl
@[simp] theorem State.track_replies (s : State) (f : Flight) : (s.track f).replies = s.replies := rfl
@[simp] theorem State.track_notices (s : State) (f : Flight) : (s.track f).notices = s.notices := rfl
@[simp] theorem State.track_overflow (s : State) (f : Flight) : (s.track f).overflow = s.overflow := rfl
@[simp] theorem State.track_discardMark (s : State) (f : Flight) : (s.track f).discardMark = s.discardMark := rfl
@[simp] theorem State.track_link (s : State) (f : Flight) : (s.track f).link = s.link := rfl
@[simp] theorem State.track_sampleTimer (s : State) (f : Flight) : (s.track f).sampleTimer = s.sampleTimer := rfl
@[simp] theorem State.track_sampleLength (s : State) (f : Flight) : (s.track f).sampleLength = s.sampleLength := rfl
@[simp] theorem State.track_atExpiry (s : State) (f : Flight) : (s.track f).atExpiry = s.atExpiry := rfl
@[simp] theorem State.track_unitCounter (s : State) (f : Flight) : (s.track f).unitCounter = s.unitCounter := rfl
@[simp] theorem State.track_refclkRunning (s : State) (f : Flight) : (s.track f).refclkRunning = s.refclkRunning := rfl
@[simp] theorem State.track_resetLow (s : State) (f : Flight) : (s.track f).resetLow = s.resetLow := rfl
@[simp] theorem State.track_inReset (s : State) (f : Flight) : (s.track f).inReset = s.inReset := rfl
@[simp] theorem State.track_out (s : State) (f : Flight) : (s.track f).out = s.out := rfl
@[simp] theorem State.track_draws (s : State) (f : Flight) : (s.track f).draws = s.draws := rfl
@[simp] theorem State.track_pending (s : State) (f : Flight) : (s.track f).pending = s.pending := rfl
@[simp] theorem State.track_ctx (s : State) (f : Flight) (i : Master) : (s.track f).ctx i = s.ctx i := rfl
@[simp] theorem State.track_entry (s : State) (f : Flight) (i : EntryIx) : (s.track f).entry i = s.entry i := rfl
@[simp] theorem State.track_window (s : State) (f : Flight) (i : WindowIx) : (s.track f).window i = s.window i := rfl

/-! What `State.clearReservations` leaves unchanged. -/

@[simp] theorem State.clearReservations_windows (s : State) (p : Master → Bool) : (s.clearReservations p).windows = s.windows := by
  simp only [State.clearReservations, State.mapCtx]
@[simp] theorem State.clearReservations_mon (s : State) (p : Master → Bool) : (s.clearReservations p).mon = s.mon := by
  simp only [State.clearReservations, State.mapCtx]
@[simp] theorem State.clearReservations_sampleCode (s : State) (p : Master → Bool) : (s.clearReservations p).sampleCode = s.sampleCode := by
  simp only [State.clearReservations, State.mapCtx]
@[simp] theorem State.clearReservations_mask (s : State) (p : Master → Bool) : (s.clearReservations p).mask = s.mask := by
  simp only [State.clearReservations, State.mapCtx]
@[simp] theorem State.clearReservations_hazard (s : State) (p : Master → Bool) : (s.clearReservations p).hazard = s.hazard := by
  simp only [State.clearReservations, State.mapCtx]
@[simp] theorem State.clearReservations_nomon (s : State) (p : Master → Bool) : (s.clearReservations p).nomon = s.nomon := by
  simp only [State.clearReservations, State.mapCtx]
@[simp] theorem State.clearReservations_contention (s : State) (p : Master → Bool) : (s.clearReservations p).contention = s.contention := by
  simp only [State.clearReservations, State.mapCtx]
@[simp] theorem State.clearReservations_replies (s : State) (p : Master → Bool) : (s.clearReservations p).replies = s.replies := by
  simp only [State.clearReservations, State.mapCtx]
@[simp] theorem State.clearReservations_notices (s : State) (p : Master → Bool) : (s.clearReservations p).notices = s.notices := by
  simp only [State.clearReservations, State.mapCtx]
@[simp] theorem State.clearReservations_overflow (s : State) (p : Master → Bool) : (s.clearReservations p).overflow = s.overflow := by
  simp only [State.clearReservations, State.mapCtx]
@[simp] theorem State.clearReservations_discardMark (s : State) (p : Master → Bool) : (s.clearReservations p).discardMark = s.discardMark := by
  simp only [State.clearReservations, State.mapCtx]
@[simp] theorem State.clearReservations_link (s : State) (p : Master → Bool) : (s.clearReservations p).link = s.link := by
  simp only [State.clearReservations, State.mapCtx]
@[simp] theorem State.clearReservations_sampleTimer (s : State) (p : Master → Bool) : (s.clearReservations p).sampleTimer = s.sampleTimer := by
  simp only [State.clearReservations, State.mapCtx]
@[simp] theorem State.clearReservations_sampleLength (s : State) (p : Master → Bool) : (s.clearReservations p).sampleLength = s.sampleLength := by
  simp only [State.clearReservations, State.mapCtx]
@[simp] theorem State.clearReservations_atExpiry (s : State) (p : Master → Bool) : (s.clearReservations p).atExpiry = s.atExpiry := by
  simp only [State.clearReservations, State.mapCtx]
@[simp] theorem State.clearReservations_unitCounter (s : State) (p : Master → Bool) : (s.clearReservations p).unitCounter = s.unitCounter := by
  simp only [State.clearReservations, State.mapCtx]
@[simp] theorem State.clearReservations_refclkRunning (s : State) (p : Master → Bool) : (s.clearReservations p).refclkRunning = s.refclkRunning := by
  simp only [State.clearReservations, State.mapCtx]
@[simp] theorem State.clearReservations_resetLow (s : State) (p : Master → Bool) : (s.clearReservations p).resetLow = s.resetLow := by
  simp only [State.clearReservations, State.mapCtx]
@[simp] theorem State.clearReservations_inReset (s : State) (p : Master → Bool) : (s.clearReservations p).inReset = s.inReset := by
  simp only [State.clearReservations, State.mapCtx]
@[simp] theorem State.clearReservations_out (s : State) (p : Master → Bool) : (s.clearReservations p).out = s.out := by
  simp only [State.clearReservations, State.mapCtx]
@[simp] theorem State.clearReservations_draws (s : State) (p : Master → Bool) : (s.clearReservations p).draws = s.draws := by
  simp only [State.clearReservations, State.mapCtx]
@[simp] theorem State.clearReservations_pending (s : State) (p : Master → Bool) : (s.clearReservations p).pending = s.pending := by
  simp only [State.clearReservations, State.mapCtx]
@[simp] theorem State.clearReservations_entry (s : State) (p : Master → Bool) (i : EntryIx) : (s.clearReservations p).entry i = s.entry i := by
  simp only [State.entry, State.clearReservations, State.mapCtx]
@[simp] theorem State.clearReservations_window (s : State) (p : Master → Bool) (i : WindowIx) : (s.clearReservations p).window i = s.window i := by
  simp only [State.window, State.clearReservations, State.mapCtx]

/-! What `State.clearReservation` leaves unchanged. -/

@[simp] theorem State.clearReservation_windows (s : State) (m : Master) : (s.clearReservation m).windows = s.windows := by
  simp only [State.clearReservation, State.clearReservations, State.mapCtx]
@[simp] theorem State.clearReservation_mon (s : State) (m : Master) : (s.clearReservation m).mon = s.mon := by
  simp only [State.clearReservation, State.clearReservations, State.mapCtx]
@[simp] theorem State.clearReservation_sampleCode (s : State) (m : Master) : (s.clearReservation m).sampleCode = s.sampleCode := by
  simp only [State.clearReservation, State.clearReservations, State.mapCtx]
@[simp] theorem State.clearReservation_mask (s : State) (m : Master) : (s.clearReservation m).mask = s.mask := by
  simp only [State.clearReservation, State.clearReservations, State.mapCtx]
@[simp] theorem State.clearReservation_hazard (s : State) (m : Master) : (s.clearReservation m).hazard = s.hazard := by
  simp only [State.clearReservation, State.clearReservations, State.mapCtx]
@[simp] theorem State.clearReservation_nomon (s : State) (m : Master) : (s.clearReservation m).nomon = s.nomon := by
  simp only [State.clearReservation, State.clearReservations, State.mapCtx]
@[simp] theorem State.clearReservation_contention (s : State) (m : Master) : (s.clearReservation m).contention = s.contention := by
  simp only [State.clearReservation, State.clearReservations, State.mapCtx]
@[simp] theorem State.clearReservation_replies (s : State) (m : Master) : (s.clearReservation m).replies = s.replies := by
  simp only [State.clearReservation, State.clearReservations, State.mapCtx]
@[simp] theorem State.clearReservation_notices (s : State) (m : Master) : (s.clearReservation m).notices = s.notices := by
  simp only [State.clearReservation, State.clearReservations, State.mapCtx]
@[simp] theorem State.clearReservation_overflow (s : State) (m : Master) : (s.clearReservation m).overflow = s.overflow := by
  simp only [State.clearReservation, State.clearReservations, State.mapCtx]
@[simp] theorem State.clearReservation_discardMark (s : State) (m : Master) : (s.clearReservation m).discardMark = s.discardMark := by
  simp only [State.clearReservation, State.clearReservations, State.mapCtx]
@[simp] theorem State.clearReservation_link (s : State) (m : Master) : (s.clearReservation m).link = s.link := by
  simp only [State.clearReservation, State.clearReservations, State.mapCtx]
@[simp] theorem State.clearReservation_sampleTimer (s : State) (m : Master) : (s.clearReservation m).sampleTimer = s.sampleTimer := by
  simp only [State.clearReservation, State.clearReservations, State.mapCtx]
@[simp] theorem State.clearReservation_sampleLength (s : State) (m : Master) : (s.clearReservation m).sampleLength = s.sampleLength := by
  simp only [State.clearReservation, State.clearReservations, State.mapCtx]
@[simp] theorem State.clearReservation_atExpiry (s : State) (m : Master) : (s.clearReservation m).atExpiry = s.atExpiry := by
  simp only [State.clearReservation, State.clearReservations, State.mapCtx]
@[simp] theorem State.clearReservation_unitCounter (s : State) (m : Master) : (s.clearReservation m).unitCounter = s.unitCounter := by
  simp only [State.clearReservation, State.clearReservations, State.mapCtx]
@[simp] theorem State.clearReservation_refclkRunning (s : State) (m : Master) : (s.clearReservation m).refclkRunning = s.refclkRunning := by
  simp only [State.clearReservation, State.clearReservations, State.mapCtx]
@[simp] theorem State.clearReservation_resetLow (s : State) (m : Master) : (s.clearReservation m).resetLow = s.resetLow := by
  simp only [State.clearReservation, State.clearReservations, State.mapCtx]
@[simp] theorem State.clearReservation_inReset (s : State) (m : Master) : (s.clearReservation m).inReset = s.inReset := by
  simp only [State.clearReservation, State.clearReservations, State.mapCtx]
@[simp] theorem State.clearReservation_out (s : State) (m : Master) : (s.clearReservation m).out = s.out := by
  simp only [State.clearReservation, State.clearReservations, State.mapCtx]
@[simp] theorem State.clearReservation_draws (s : State) (m : Master) : (s.clearReservation m).draws = s.draws := by
  simp only [State.clearReservation, State.clearReservations, State.mapCtx]
@[simp] theorem State.clearReservation_pending (s : State) (m : Master) : (s.clearReservation m).pending = s.pending := by
  simp only [State.clearReservation, State.clearReservations, State.mapCtx]
@[simp] theorem State.clearReservation_entry (s : State) (m : Master) (i : EntryIx) : (s.clearReservation m).entry i = s.entry i := by
  simp only [State.entry, State.clearReservation, State.clearReservations, State.mapCtx]
@[simp] theorem State.clearReservation_window (s : State) (m : Master) (i : WindowIx) : (s.clearReservation m).window i = s.window i := by
  simp only [State.window, State.clearReservation, State.clearReservations, State.mapCtx]

/-! What `State.clearRange` leaves unchanged. -/

@[simp] theorem State.clearRange_windows (s : State) (r : GranuleRange) : (s.clearRange r).windows = s.windows := by
  simp only [State.clearRange, State.clearReservations, State.mapCtx]
@[simp] theorem State.clearRange_mon (s : State) (r : GranuleRange) : (s.clearRange r).mon = s.mon := by
  simp only [State.clearRange, State.clearReservations, State.mapCtx]
@[simp] theorem State.clearRange_sampleCode (s : State) (r : GranuleRange) : (s.clearRange r).sampleCode = s.sampleCode := by
  simp only [State.clearRange, State.clearReservations, State.mapCtx]
@[simp] theorem State.clearRange_mask (s : State) (r : GranuleRange) : (s.clearRange r).mask = s.mask := by
  simp only [State.clearRange, State.clearReservations, State.mapCtx]
@[simp] theorem State.clearRange_hazard (s : State) (r : GranuleRange) : (s.clearRange r).hazard = s.hazard := by
  simp only [State.clearRange, State.clearReservations, State.mapCtx]
@[simp] theorem State.clearRange_nomon (s : State) (r : GranuleRange) : (s.clearRange r).nomon = s.nomon := by
  simp only [State.clearRange, State.clearReservations, State.mapCtx]
@[simp] theorem State.clearRange_contention (s : State) (r : GranuleRange) : (s.clearRange r).contention = s.contention := by
  simp only [State.clearRange, State.clearReservations, State.mapCtx]
@[simp] theorem State.clearRange_replies (s : State) (r : GranuleRange) : (s.clearRange r).replies = s.replies := by
  simp only [State.clearRange, State.clearReservations, State.mapCtx]
@[simp] theorem State.clearRange_notices (s : State) (r : GranuleRange) : (s.clearRange r).notices = s.notices := by
  simp only [State.clearRange, State.clearReservations, State.mapCtx]
@[simp] theorem State.clearRange_overflow (s : State) (r : GranuleRange) : (s.clearRange r).overflow = s.overflow := by
  simp only [State.clearRange, State.clearReservations, State.mapCtx]
@[simp] theorem State.clearRange_discardMark (s : State) (r : GranuleRange) : (s.clearRange r).discardMark = s.discardMark := by
  simp only [State.clearRange, State.clearReservations, State.mapCtx]
@[simp] theorem State.clearRange_link (s : State) (r : GranuleRange) : (s.clearRange r).link = s.link := by
  simp only [State.clearRange, State.clearReservations, State.mapCtx]
@[simp] theorem State.clearRange_sampleTimer (s : State) (r : GranuleRange) : (s.clearRange r).sampleTimer = s.sampleTimer := by
  simp only [State.clearRange, State.clearReservations, State.mapCtx]
@[simp] theorem State.clearRange_sampleLength (s : State) (r : GranuleRange) : (s.clearRange r).sampleLength = s.sampleLength := by
  simp only [State.clearRange, State.clearReservations, State.mapCtx]
@[simp] theorem State.clearRange_atExpiry (s : State) (r : GranuleRange) : (s.clearRange r).atExpiry = s.atExpiry := by
  simp only [State.clearRange, State.clearReservations, State.mapCtx]
@[simp] theorem State.clearRange_unitCounter (s : State) (r : GranuleRange) : (s.clearRange r).unitCounter = s.unitCounter := by
  simp only [State.clearRange, State.clearReservations, State.mapCtx]
@[simp] theorem State.clearRange_refclkRunning (s : State) (r : GranuleRange) : (s.clearRange r).refclkRunning = s.refclkRunning := by
  simp only [State.clearRange, State.clearReservations, State.mapCtx]
@[simp] theorem State.clearRange_resetLow (s : State) (r : GranuleRange) : (s.clearRange r).resetLow = s.resetLow := by
  simp only [State.clearRange, State.clearReservations, State.mapCtx]
@[simp] theorem State.clearRange_inReset (s : State) (r : GranuleRange) : (s.clearRange r).inReset = s.inReset := by
  simp only [State.clearRange, State.clearReservations, State.mapCtx]
@[simp] theorem State.clearRange_out (s : State) (r : GranuleRange) : (s.clearRange r).out = s.out := by
  simp only [State.clearRange, State.clearReservations, State.mapCtx]
@[simp] theorem State.clearRange_draws (s : State) (r : GranuleRange) : (s.clearRange r).draws = s.draws := by
  simp only [State.clearRange, State.clearReservations, State.mapCtx]
@[simp] theorem State.clearRange_pending (s : State) (r : GranuleRange) : (s.clearRange r).pending = s.pending := by
  simp only [State.clearRange, State.clearReservations, State.mapCtx]
@[simp] theorem State.clearRange_entry (s : State) (r : GranuleRange) (i : EntryIx) : (s.clearRange r).entry i = s.entry i := by
  simp only [State.entry, State.clearRange, State.clearReservations, State.mapCtx]
@[simp] theorem State.clearRange_window (s : State) (r : GranuleRange) (i : WindowIx) : (s.clearRange r).window i = s.window i := by
  simp only [State.window, State.clearRange, State.clearReservations, State.mapCtx]

/-! What `State.arm` leaves unchanged. -/

@[simp] theorem State.arm_windows (s : State) (m : Master) (t : Tag) (a : Addr) (g : Granule) (h : Option EntryIx) : (s.arm m t a g h).windows = s.windows := by
  simp only [State.arm, State.updCtx, State.mapCtx, State.track]
@[simp] theorem State.arm_mon (s : State) (m : Master) (t : Tag) (a : Addr) (g : Granule) (h : Option EntryIx) : (s.arm m t a g h).mon = s.mon := by
  simp only [State.arm, State.updCtx, State.mapCtx, State.track]
@[simp] theorem State.arm_sampleCode (s : State) (m : Master) (t : Tag) (a : Addr) (g : Granule) (h : Option EntryIx) : (s.arm m t a g h).sampleCode = s.sampleCode := by
  simp only [State.arm, State.updCtx, State.mapCtx, State.track]
@[simp] theorem State.arm_mask (s : State) (m : Master) (t : Tag) (a : Addr) (g : Granule) (h : Option EntryIx) : (s.arm m t a g h).mask = s.mask := by
  simp only [State.arm, State.updCtx, State.mapCtx, State.track]
@[simp] theorem State.arm_hazard (s : State) (m : Master) (t : Tag) (a : Addr) (g : Granule) (h : Option EntryIx) : (s.arm m t a g h).hazard = s.hazard := by
  simp only [State.arm, State.updCtx, State.mapCtx, State.track]
@[simp] theorem State.arm_nomon (s : State) (m : Master) (t : Tag) (a : Addr) (g : Granule) (h : Option EntryIx) : (s.arm m t a g h).nomon = s.nomon := by
  simp only [State.arm, State.updCtx, State.mapCtx, State.track]
@[simp] theorem State.arm_released (s : State) (m : Master) (t : Tag) (a : Addr) (g : Granule) (h : Option EntryIx) : (s.arm m t a g h).released = s.released := by
  simp only [State.arm, State.updCtx, State.mapCtx, State.track]
@[simp] theorem State.arm_contention (s : State) (m : Master) (t : Tag) (a : Addr) (g : Granule) (h : Option EntryIx) : (s.arm m t a g h).contention = s.contention := by
  simp only [State.arm, State.updCtx, State.mapCtx, State.track]
@[simp] theorem State.arm_replies (s : State) (m : Master) (t : Tag) (a : Addr) (g : Granule) (h : Option EntryIx) : (s.arm m t a g h).replies = s.replies := by
  simp only [State.arm, State.updCtx, State.mapCtx, State.track]
@[simp] theorem State.arm_notices (s : State) (m : Master) (t : Tag) (a : Addr) (g : Granule) (h : Option EntryIx) : (s.arm m t a g h).notices = s.notices := by
  simp only [State.arm, State.updCtx, State.mapCtx, State.track]
@[simp] theorem State.arm_overflow (s : State) (m : Master) (t : Tag) (a : Addr) (g : Granule) (h : Option EntryIx) : (s.arm m t a g h).overflow = s.overflow := by
  simp only [State.arm, State.updCtx, State.mapCtx, State.track]
@[simp] theorem State.arm_discardMark (s : State) (m : Master) (t : Tag) (a : Addr) (g : Granule) (h : Option EntryIx) : (s.arm m t a g h).discardMark = s.discardMark := by
  simp only [State.arm, State.updCtx, State.mapCtx, State.track]
@[simp] theorem State.arm_link (s : State) (m : Master) (t : Tag) (a : Addr) (g : Granule) (h : Option EntryIx) : (s.arm m t a g h).link = s.link := by
  simp only [State.arm, State.updCtx, State.mapCtx, State.track]
@[simp] theorem State.arm_sampleTimer (s : State) (m : Master) (t : Tag) (a : Addr) (g : Granule) (h : Option EntryIx) : (s.arm m t a g h).sampleTimer = s.sampleTimer := by
  simp only [State.arm, State.updCtx, State.mapCtx, State.track]
@[simp] theorem State.arm_sampleLength (s : State) (m : Master) (t : Tag) (a : Addr) (g : Granule) (h : Option EntryIx) : (s.arm m t a g h).sampleLength = s.sampleLength := by
  simp only [State.arm, State.updCtx, State.mapCtx, State.track]
@[simp] theorem State.arm_atExpiry (s : State) (m : Master) (t : Tag) (a : Addr) (g : Granule) (h : Option EntryIx) : (s.arm m t a g h).atExpiry = s.atExpiry := by
  simp only [State.arm, State.updCtx, State.mapCtx, State.track]
@[simp] theorem State.arm_unitCounter (s : State) (m : Master) (t : Tag) (a : Addr) (g : Granule) (h : Option EntryIx) : (s.arm m t a g h).unitCounter = s.unitCounter := by
  simp only [State.arm, State.updCtx, State.mapCtx, State.track]
@[simp] theorem State.arm_refclkRunning (s : State) (m : Master) (t : Tag) (a : Addr) (g : Granule) (h : Option EntryIx) : (s.arm m t a g h).refclkRunning = s.refclkRunning := by
  simp only [State.arm, State.updCtx, State.mapCtx, State.track]
@[simp] theorem State.arm_resetLow (s : State) (m : Master) (t : Tag) (a : Addr) (g : Granule) (h : Option EntryIx) : (s.arm m t a g h).resetLow = s.resetLow := by
  simp only [State.arm, State.updCtx, State.mapCtx, State.track]
@[simp] theorem State.arm_inReset (s : State) (m : Master) (t : Tag) (a : Addr) (g : Granule) (h : Option EntryIx) : (s.arm m t a g h).inReset = s.inReset := by
  simp only [State.arm, State.updCtx, State.mapCtx, State.track]
@[simp] theorem State.arm_out (s : State) (m : Master) (t : Tag) (a : Addr) (g : Granule) (h : Option EntryIx) : (s.arm m t a g h).out = s.out := by
  simp only [State.arm, State.updCtx, State.mapCtx, State.track]
@[simp] theorem State.arm_draws (s : State) (m : Master) (t : Tag) (a : Addr) (g : Granule) (h : Option EntryIx) : (s.arm m t a g h).draws = s.draws := by
  simp only [State.arm, State.updCtx, State.mapCtx, State.track]
@[simp] theorem State.arm_pending (s : State) (m : Master) (t : Tag) (a : Addr) (g : Granule) (h : Option EntryIx) : (s.arm m t a g h).pending = s.pending := by
  simp only [State.arm, State.updCtx, State.mapCtx, State.track]
@[simp] theorem State.arm_entry (s : State) (m : Master) (t : Tag) (a : Addr) (g : Granule) (h : Option EntryIx) (i : EntryIx) : (s.arm m t a g h).entry i = s.entry i := by
  simp only [State.entry, State.arm, State.updCtx, State.mapCtx, State.track]
@[simp] theorem State.arm_window (s : State) (m : Master) (t : Tag) (a : Addr) (g : Granule) (h : Option EntryIx) (i : WindowIx) : (s.arm m t a g h).window i = s.window i := by
  simp only [State.window, State.arm, State.updCtx, State.mapCtx, State.track]

/-! What `State.hazardToQueue` leaves unchanged. -/

@[simp] theorem State.hazardToQueue_windows (s : State) (e : EntryIx) (p : Master → Bool) : (s.hazardToQueue e p).windows = s.windows := by
  simp only [State.hazardToQueue, State.updEntry, State.mapEntries, State.mapCtx]
@[simp] theorem State.hazardToQueue_mon (s : State) (e : EntryIx) (p : Master → Bool) : (s.hazardToQueue e p).mon = s.mon := by
  simp only [State.hazardToQueue, State.updEntry, State.mapEntries, State.mapCtx]
@[simp] theorem State.hazardToQueue_sampleCode (s : State) (e : EntryIx) (p : Master → Bool) : (s.hazardToQueue e p).sampleCode = s.sampleCode := by
  simp only [State.hazardToQueue, State.updEntry, State.mapEntries, State.mapCtx]
@[simp] theorem State.hazardToQueue_mask (s : State) (e : EntryIx) (p : Master → Bool) : (s.hazardToQueue e p).mask = s.mask := by
  simp only [State.hazardToQueue, State.updEntry, State.mapEntries, State.mapCtx]
@[simp] theorem State.hazardToQueue_flight (s : State) (e : EntryIx) (p : Master → Bool) : (s.hazardToQueue e p).flight = s.flight := by
  simp only [State.hazardToQueue, State.updEntry, State.mapEntries, State.mapCtx]
@[simp] theorem State.hazardToQueue_nomon (s : State) (e : EntryIx) (p : Master → Bool) : (s.hazardToQueue e p).nomon = s.nomon := by
  simp only [State.hazardToQueue, State.updEntry, State.mapEntries, State.mapCtx]
@[simp] theorem State.hazardToQueue_released (s : State) (e : EntryIx) (p : Master → Bool) : (s.hazardToQueue e p).released = s.released := by
  simp only [State.hazardToQueue, State.updEntry, State.mapEntries, State.mapCtx]
@[simp] theorem State.hazardToQueue_replies (s : State) (e : EntryIx) (p : Master → Bool) : (s.hazardToQueue e p).replies = s.replies := by
  simp only [State.hazardToQueue, State.updEntry, State.mapEntries, State.mapCtx]
@[simp] theorem State.hazardToQueue_notices (s : State) (e : EntryIx) (p : Master → Bool) : (s.hazardToQueue e p).notices = s.notices := by
  simp only [State.hazardToQueue, State.updEntry, State.mapEntries, State.mapCtx]
@[simp] theorem State.hazardToQueue_overflow (s : State) (e : EntryIx) (p : Master → Bool) : (s.hazardToQueue e p).overflow = s.overflow := by
  simp only [State.hazardToQueue, State.updEntry, State.mapEntries, State.mapCtx]
@[simp] theorem State.hazardToQueue_discardMark (s : State) (e : EntryIx) (p : Master → Bool) : (s.hazardToQueue e p).discardMark = s.discardMark := by
  simp only [State.hazardToQueue, State.updEntry, State.mapEntries, State.mapCtx]
@[simp] theorem State.hazardToQueue_link (s : State) (e : EntryIx) (p : Master → Bool) : (s.hazardToQueue e p).link = s.link := by
  simp only [State.hazardToQueue, State.updEntry, State.mapEntries, State.mapCtx]
@[simp] theorem State.hazardToQueue_sampleTimer (s : State) (e : EntryIx) (p : Master → Bool) : (s.hazardToQueue e p).sampleTimer = s.sampleTimer := by
  simp only [State.hazardToQueue, State.updEntry, State.mapEntries, State.mapCtx]
@[simp] theorem State.hazardToQueue_sampleLength (s : State) (e : EntryIx) (p : Master → Bool) : (s.hazardToQueue e p).sampleLength = s.sampleLength := by
  simp only [State.hazardToQueue, State.updEntry, State.mapEntries, State.mapCtx]
@[simp] theorem State.hazardToQueue_atExpiry (s : State) (e : EntryIx) (p : Master → Bool) : (s.hazardToQueue e p).atExpiry = s.atExpiry := by
  simp only [State.hazardToQueue, State.updEntry, State.mapEntries, State.mapCtx]
@[simp] theorem State.hazardToQueue_unitCounter (s : State) (e : EntryIx) (p : Master → Bool) : (s.hazardToQueue e p).unitCounter = s.unitCounter := by
  simp only [State.hazardToQueue, State.updEntry, State.mapEntries, State.mapCtx]
@[simp] theorem State.hazardToQueue_refclkRunning (s : State) (e : EntryIx) (p : Master → Bool) : (s.hazardToQueue e p).refclkRunning = s.refclkRunning := by
  simp only [State.hazardToQueue, State.updEntry, State.mapEntries, State.mapCtx]
@[simp] theorem State.hazardToQueue_resetLow (s : State) (e : EntryIx) (p : Master → Bool) : (s.hazardToQueue e p).resetLow = s.resetLow := by
  simp only [State.hazardToQueue, State.updEntry, State.mapEntries, State.mapCtx]
@[simp] theorem State.hazardToQueue_inReset (s : State) (e : EntryIx) (p : Master → Bool) : (s.hazardToQueue e p).inReset = s.inReset := by
  simp only [State.hazardToQueue, State.updEntry, State.mapEntries, State.mapCtx]
@[simp] theorem State.hazardToQueue_out (s : State) (e : EntryIx) (p : Master → Bool) : (s.hazardToQueue e p).out = s.out := by
  simp only [State.hazardToQueue, State.updEntry, State.mapEntries, State.mapCtx]
@[simp] theorem State.hazardToQueue_draws (s : State) (e : EntryIx) (p : Master → Bool) : (s.hazardToQueue e p).draws = s.draws := by
  simp only [State.hazardToQueue, State.updEntry, State.mapEntries, State.mapCtx]
@[simp] theorem State.hazardToQueue_pending (s : State) (e : EntryIx) (p : Master → Bool) : (s.hazardToQueue e p).pending = s.pending := by
  simp only [State.hazardToQueue, State.updEntry, State.mapEntries, State.mapCtx]
@[simp] theorem State.hazardToQueue_window (s : State) (e : EntryIx) (p : Master → Bool) (i : WindowIx) : (s.hazardToQueue e p).window i = s.window i := by
  simp only [State.window, State.hazardToQueue, State.updEntry, State.mapEntries, State.mapCtx]

/-! What `State.grant` leaves unchanged. -/

@[simp] theorem State.grant_windows (s : State) (e : EntryIx) (m : Master) : (s.grant e m).windows = s.windows := by
  simp only [State.grant, State.updCtx, State.mapCtx, State.updEntry, State.mapEntries]
@[simp] theorem State.grant_mon (s : State) (e : EntryIx) (m : Master) : (s.grant e m).mon = s.mon := by
  simp only [State.grant, State.updCtx, State.mapCtx, State.updEntry, State.mapEntries]
@[simp] theorem State.grant_sampleCode (s : State) (e : EntryIx) (m : Master) : (s.grant e m).sampleCode = s.sampleCode := by
  simp only [State.grant, State.updCtx, State.mapCtx, State.updEntry, State.mapEntries]
@[simp] theorem State.grant_mask (s : State) (e : EntryIx) (m : Master) : (s.grant e m).mask = s.mask := by
  simp only [State.grant, State.updCtx, State.mapCtx, State.updEntry, State.mapEntries]
@[simp] theorem State.grant_flight (s : State) (e : EntryIx) (m : Master) : (s.grant e m).flight = s.flight := by
  simp only [State.grant, State.updCtx, State.mapCtx, State.updEntry, State.mapEntries]
@[simp] theorem State.grant_hazard (s : State) (e : EntryIx) (m : Master) : (s.grant e m).hazard = s.hazard := by
  simp only [State.grant, State.updCtx, State.mapCtx, State.updEntry, State.mapEntries]
@[simp] theorem State.grant_nomon (s : State) (e : EntryIx) (m : Master) : (s.grant e m).nomon = s.nomon := by
  simp only [State.grant, State.updCtx, State.mapCtx, State.updEntry, State.mapEntries]
@[simp] theorem State.grant_replies (s : State) (e : EntryIx) (m : Master) : (s.grant e m).replies = s.replies := by
  simp only [State.grant, State.updCtx, State.mapCtx, State.updEntry, State.mapEntries]
@[simp] theorem State.grant_notices (s : State) (e : EntryIx) (m : Master) : (s.grant e m).notices = s.notices := by
  simp only [State.grant, State.updCtx, State.mapCtx, State.updEntry, State.mapEntries]
@[simp] theorem State.grant_overflow (s : State) (e : EntryIx) (m : Master) : (s.grant e m).overflow = s.overflow := by
  simp only [State.grant, State.updCtx, State.mapCtx, State.updEntry, State.mapEntries]
@[simp] theorem State.grant_discardMark (s : State) (e : EntryIx) (m : Master) : (s.grant e m).discardMark = s.discardMark := by
  simp only [State.grant, State.updCtx, State.mapCtx, State.updEntry, State.mapEntries]
@[simp] theorem State.grant_link (s : State) (e : EntryIx) (m : Master) : (s.grant e m).link = s.link := by
  simp only [State.grant, State.updCtx, State.mapCtx, State.updEntry, State.mapEntries]
@[simp] theorem State.grant_sampleTimer (s : State) (e : EntryIx) (m : Master) : (s.grant e m).sampleTimer = s.sampleTimer := by
  simp only [State.grant, State.updCtx, State.mapCtx, State.updEntry, State.mapEntries]
@[simp] theorem State.grant_sampleLength (s : State) (e : EntryIx) (m : Master) : (s.grant e m).sampleLength = s.sampleLength := by
  simp only [State.grant, State.updCtx, State.mapCtx, State.updEntry, State.mapEntries]
@[simp] theorem State.grant_atExpiry (s : State) (e : EntryIx) (m : Master) : (s.grant e m).atExpiry = s.atExpiry := by
  simp only [State.grant, State.updCtx, State.mapCtx, State.updEntry, State.mapEntries]
@[simp] theorem State.grant_unitCounter (s : State) (e : EntryIx) (m : Master) : (s.grant e m).unitCounter = s.unitCounter := by
  simp only [State.grant, State.updCtx, State.mapCtx, State.updEntry, State.mapEntries]
@[simp] theorem State.grant_refclkRunning (s : State) (e : EntryIx) (m : Master) : (s.grant e m).refclkRunning = s.refclkRunning := by
  simp only [State.grant, State.updCtx, State.mapCtx, State.updEntry, State.mapEntries]
@[simp] theorem State.grant_resetLow (s : State) (e : EntryIx) (m : Master) : (s.grant e m).resetLow = s.resetLow := by
  simp only [State.grant, State.updCtx, State.mapCtx, State.updEntry, State.mapEntries]
@[simp] theorem State.grant_inReset (s : State) (e : EntryIx) (m : Master) : (s.grant e m).inReset = s.inReset := by
  simp only [State.grant, State.updCtx, State.mapCtx, State.updEntry, State.mapEntries]
@[simp] theorem State.grant_out (s : State) (e : EntryIx) (m : Master) : (s.grant e m).out = s.out := by
  simp only [State.grant, State.updCtx, State.mapCtx, State.updEntry, State.mapEntries]
@[simp] theorem State.grant_draws (s : State) (e : EntryIx) (m : Master) : (s.grant e m).draws = s.draws := by
  simp only [State.grant, State.updCtx, State.mapCtx, State.updEntry, State.mapEntries]
@[simp] theorem State.grant_pending (s : State) (e : EntryIx) (m : Master) : (s.grant e m).pending = s.pending := by
  simp only [State.grant, State.updCtx, State.mapCtx, State.updEntry, State.mapEntries]
@[simp] theorem State.grant_window (s : State) (e : EntryIx) (m : Master) (i : WindowIx) : (s.grant e m).window i = s.window i := by
  simp only [State.window, State.grant, State.updCtx, State.mapCtx, State.updEntry, State.mapEntries]

/-! What `State.dissolve` leaves unchanged. -/

@[simp] theorem State.dissolve_windows (s : State) (p : WindowIx → Bool) : (s.dissolve p).windows = s.windows := by
  simp only [State.dissolve, State.mapEntries, State.mapCtx]
@[simp] theorem State.dissolve_mon (s : State) (p : WindowIx → Bool) : (s.dissolve p).mon = s.mon := by
  simp only [State.dissolve, State.mapEntries, State.mapCtx]
@[simp] theorem State.dissolve_sampleCode (s : State) (p : WindowIx → Bool) : (s.dissolve p).sampleCode = s.sampleCode := by
  simp only [State.dissolve, State.mapEntries, State.mapCtx]
@[simp] theorem State.dissolve_mask (s : State) (p : WindowIx → Bool) : (s.dissolve p).mask = s.mask := by
  simp only [State.dissolve, State.mapEntries, State.mapCtx]
@[simp] theorem State.dissolve_nomon (s : State) (p : WindowIx → Bool) : (s.dissolve p).nomon = s.nomon := by
  simp only [State.dissolve, State.mapEntries, State.mapCtx]
@[simp] theorem State.dissolve_replies (s : State) (p : WindowIx → Bool) : (s.dissolve p).replies = s.replies := by
  simp only [State.dissolve, State.mapEntries, State.mapCtx]
@[simp] theorem State.dissolve_notices (s : State) (p : WindowIx → Bool) : (s.dissolve p).notices = s.notices := by
  simp only [State.dissolve, State.mapEntries, State.mapCtx]
@[simp] theorem State.dissolve_overflow (s : State) (p : WindowIx → Bool) : (s.dissolve p).overflow = s.overflow := by
  simp only [State.dissolve, State.mapEntries, State.mapCtx]
@[simp] theorem State.dissolve_discardMark (s : State) (p : WindowIx → Bool) : (s.dissolve p).discardMark = s.discardMark := by
  simp only [State.dissolve, State.mapEntries, State.mapCtx]
@[simp] theorem State.dissolve_link (s : State) (p : WindowIx → Bool) : (s.dissolve p).link = s.link := by
  simp only [State.dissolve, State.mapEntries, State.mapCtx]
@[simp] theorem State.dissolve_sampleTimer (s : State) (p : WindowIx → Bool) : (s.dissolve p).sampleTimer = s.sampleTimer := by
  simp only [State.dissolve, State.mapEntries, State.mapCtx]
@[simp] theorem State.dissolve_sampleLength (s : State) (p : WindowIx → Bool) : (s.dissolve p).sampleLength = s.sampleLength := by
  simp only [State.dissolve, State.mapEntries, State.mapCtx]
@[simp] theorem State.dissolve_atExpiry (s : State) (p : WindowIx → Bool) : (s.dissolve p).atExpiry = s.atExpiry := by
  simp only [State.dissolve, State.mapEntries, State.mapCtx]
@[simp] theorem State.dissolve_unitCounter (s : State) (p : WindowIx → Bool) : (s.dissolve p).unitCounter = s.unitCounter := by
  simp only [State.dissolve, State.mapEntries, State.mapCtx]
@[simp] theorem State.dissolve_refclkRunning (s : State) (p : WindowIx → Bool) : (s.dissolve p).refclkRunning = s.refclkRunning := by
  simp only [State.dissolve, State.mapEntries, State.mapCtx]
@[simp] theorem State.dissolve_resetLow (s : State) (p : WindowIx → Bool) : (s.dissolve p).resetLow = s.resetLow := by
  simp only [State.dissolve, State.mapEntries, State.mapCtx]
@[simp] theorem State.dissolve_inReset (s : State) (p : WindowIx → Bool) : (s.dissolve p).inReset = s.inReset := by
  simp only [State.dissolve, State.mapEntries, State.mapCtx]
@[simp] theorem State.dissolve_out (s : State) (p : WindowIx → Bool) : (s.dissolve p).out = s.out := by
  simp only [State.dissolve, State.mapEntries, State.mapCtx]
@[simp] theorem State.dissolve_draws (s : State) (p : WindowIx → Bool) : (s.dissolve p).draws = s.draws := by
  simp only [State.dissolve, State.mapEntries, State.mapCtx]
@[simp] theorem State.dissolve_pending (s : State) (p : WindowIx → Bool) : (s.dissolve p).pending = s.pending := by
  simp only [State.dissolve, State.mapEntries, State.mapCtx]
@[simp] theorem State.dissolve_window (s : State) (p : WindowIx → Bool) (i : WindowIx) : (s.dissolve p).window i = s.window i := by
  simp only [State.window, State.dissolve, State.mapEntries, State.mapCtx]

/-! What `State.park` leaves unchanged. -/

@[simp] theorem State.park_windows (s : State) (r : Request) (g : Granule) (why : ParkReason) : (s.park r g why).windows = s.windows := by
  simp only [State.park, State.updCtx, State.mapCtx]
@[simp] theorem State.park_mon (s : State) (r : Request) (g : Granule) (why : ParkReason) : (s.park r g why).mon = s.mon := by
  simp only [State.park, State.updCtx, State.mapCtx]
@[simp] theorem State.park_sampleCode (s : State) (r : Request) (g : Granule) (why : ParkReason) : (s.park r g why).sampleCode = s.sampleCode := by
  simp only [State.park, State.updCtx, State.mapCtx]
@[simp] theorem State.park_mask (s : State) (r : Request) (g : Granule) (why : ParkReason) : (s.park r g why).mask = s.mask := by
  simp only [State.park, State.updCtx, State.mapCtx]
@[simp] theorem State.park_flight (s : State) (r : Request) (g : Granule) (why : ParkReason) : (s.park r g why).flight = s.flight := by
  simp only [State.park, State.updCtx, State.mapCtx]
@[simp] theorem State.park_hazard (s : State) (r : Request) (g : Granule) (why : ParkReason) : (s.park r g why).hazard = s.hazard := by
  simp only [State.park, State.updCtx, State.mapCtx]
@[simp] theorem State.park_nomon (s : State) (r : Request) (g : Granule) (why : ParkReason) : (s.park r g why).nomon = s.nomon := by
  simp only [State.park, State.updCtx, State.mapCtx]
@[simp] theorem State.park_released (s : State) (r : Request) (g : Granule) (why : ParkReason) : (s.park r g why).released = s.released := by
  simp only [State.park, State.updCtx, State.mapCtx]
@[simp] theorem State.park_contention (s : State) (r : Request) (g : Granule) (why : ParkReason) : (s.park r g why).contention = s.contention := by
  simp only [State.park, State.updCtx, State.mapCtx]
@[simp] theorem State.park_replies (s : State) (r : Request) (g : Granule) (why : ParkReason) : (s.park r g why).replies = s.replies := by
  simp only [State.park, State.updCtx, State.mapCtx]
@[simp] theorem State.park_notices (s : State) (r : Request) (g : Granule) (why : ParkReason) : (s.park r g why).notices = s.notices := by
  simp only [State.park, State.updCtx, State.mapCtx]
@[simp] theorem State.park_overflow (s : State) (r : Request) (g : Granule) (why : ParkReason) : (s.park r g why).overflow = s.overflow := by
  simp only [State.park, State.updCtx, State.mapCtx]
@[simp] theorem State.park_discardMark (s : State) (r : Request) (g : Granule) (why : ParkReason) : (s.park r g why).discardMark = s.discardMark := by
  simp only [State.park, State.updCtx, State.mapCtx]
@[simp] theorem State.park_link (s : State) (r : Request) (g : Granule) (why : ParkReason) : (s.park r g why).link = s.link := by
  simp only [State.park, State.updCtx, State.mapCtx]
@[simp] theorem State.park_sampleTimer (s : State) (r : Request) (g : Granule) (why : ParkReason) : (s.park r g why).sampleTimer = s.sampleTimer := by
  simp only [State.park, State.updCtx, State.mapCtx]
@[simp] theorem State.park_sampleLength (s : State) (r : Request) (g : Granule) (why : ParkReason) : (s.park r g why).sampleLength = s.sampleLength := by
  simp only [State.park, State.updCtx, State.mapCtx]
@[simp] theorem State.park_atExpiry (s : State) (r : Request) (g : Granule) (why : ParkReason) : (s.park r g why).atExpiry = s.atExpiry := by
  simp only [State.park, State.updCtx, State.mapCtx]
@[simp] theorem State.park_unitCounter (s : State) (r : Request) (g : Granule) (why : ParkReason) : (s.park r g why).unitCounter = s.unitCounter := by
  simp only [State.park, State.updCtx, State.mapCtx]
@[simp] theorem State.park_refclkRunning (s : State) (r : Request) (g : Granule) (why : ParkReason) : (s.park r g why).refclkRunning = s.refclkRunning := by
  simp only [State.park, State.updCtx, State.mapCtx]
@[simp] theorem State.park_resetLow (s : State) (r : Request) (g : Granule) (why : ParkReason) : (s.park r g why).resetLow = s.resetLow := by
  simp only [State.park, State.updCtx, State.mapCtx]
@[simp] theorem State.park_inReset (s : State) (r : Request) (g : Granule) (why : ParkReason) : (s.park r g why).inReset = s.inReset := by
  simp only [State.park, State.updCtx, State.mapCtx]
@[simp] theorem State.park_out (s : State) (r : Request) (g : Granule) (why : ParkReason) : (s.park r g why).out = s.out := by
  simp only [State.park, State.updCtx, State.mapCtx]
@[simp] theorem State.park_draws (s : State) (r : Request) (g : Granule) (why : ParkReason) : (s.park r g why).draws = s.draws := by
  simp only [State.park, State.updCtx, State.mapCtx]
@[simp] theorem State.park_pending (s : State) (r : Request) (g : Granule) (why : ParkReason) : (s.park r g why).pending = s.pending := by
  simp only [State.park, State.updCtx, State.mapCtx]
@[simp] theorem State.park_entry (s : State) (r : Request) (g : Granule) (why : ParkReason) (i : EntryIx) : (s.park r g why).entry i = s.entry i := by
  simp only [State.entry, State.park, State.updCtx, State.mapCtx]
@[simp] theorem State.park_window (s : State) (r : Request) (g : Granule) (why : ParkReason) (i : WindowIx) : (s.park r g why).window i = s.window i := by
  simp only [State.window, State.park, State.updCtx, State.mapCtx]

/-! What `State.refuse` leaves unchanged. -/

@[simp] theorem State.refuse_windows (s : State) : (s.refuse).windows = s.windows := rfl
@[simp] theorem State.refuse_mon (s : State) : (s.refuse).mon = s.mon := rfl
@[simp] theorem State.refuse_sampleCode (s : State) : (s.refuse).sampleCode = s.sampleCode := rfl
@[simp] theorem State.refuse_mask (s : State) : (s.refuse).mask = s.mask := rfl
@[simp] theorem State.refuse_contexts (s : State) : (s.refuse).contexts = s.contexts := rfl
@[simp] theorem State.refuse_flight (s : State) : (s.refuse).flight = s.flight := rfl
@[simp] theorem State.refuse_hazard (s : State) : (s.refuse).hazard = s.hazard := rfl
@[simp] theorem State.refuse_nomon (s : State) : (s.refuse).nomon = s.nomon := rfl
@[simp] theorem State.refuse_released (s : State) : (s.refuse).released = s.released := rfl
@[simp] theorem State.refuse_contention (s : State) : (s.refuse).contention = s.contention := rfl
@[simp] theorem State.refuse_replies (s : State) : (s.refuse).replies = s.replies := rfl
@[simp] theorem State.refuse_notices (s : State) : (s.refuse).notices = s.notices := rfl
@[simp] theorem State.refuse_overflow (s : State) : (s.refuse).overflow = s.overflow := rfl
@[simp] theorem State.refuse_discardMark (s : State) : (s.refuse).discardMark = s.discardMark := rfl
@[simp] theorem State.refuse_sampleTimer (s : State) : (s.refuse).sampleTimer = s.sampleTimer := rfl
@[simp] theorem State.refuse_sampleLength (s : State) : (s.refuse).sampleLength = s.sampleLength := rfl
@[simp] theorem State.refuse_atExpiry (s : State) : (s.refuse).atExpiry = s.atExpiry := rfl
@[simp] theorem State.refuse_unitCounter (s : State) : (s.refuse).unitCounter = s.unitCounter := rfl
@[simp] theorem State.refuse_refclkRunning (s : State) : (s.refuse).refclkRunning = s.refclkRunning := rfl
@[simp] theorem State.refuse_resetLow (s : State) : (s.refuse).resetLow = s.resetLow := rfl
@[simp] theorem State.refuse_inReset (s : State) : (s.refuse).inReset = s.inReset := rfl
@[simp] theorem State.refuse_out (s : State) : (s.refuse).out = s.out := rfl
@[simp] theorem State.refuse_draws (s : State) : (s.refuse).draws = s.draws := rfl
@[simp] theorem State.refuse_pending (s : State) : (s.refuse).pending = s.pending := rfl
@[simp] theorem State.refuse_ctx (s : State) (i : Master) : (s.refuse).ctx i = s.ctx i := rfl
@[simp] theorem State.refuse_entry (s : State) (i : EntryIx) : (s.refuse).entry i = s.entry i := rfl
@[simp] theorem State.refuse_window (s : State) (i : WindowIx) : (s.refuse).window i = s.window i := rfl

/-! What `State.forgetHolder` leaves unchanged. -/

@[simp] theorem State.forgetHolder_windows (s : State) (m : Master) (e : EntryIx) : (s.forgetHolder m e).windows = s.windows := rfl
@[simp] theorem State.forgetHolder_mon (s : State) (m : Master) (e : EntryIx) : (s.forgetHolder m e).mon = s.mon := rfl
@[simp] theorem State.forgetHolder_sampleCode (s : State) (m : Master) (e : EntryIx) : (s.forgetHolder m e).sampleCode = s.sampleCode := rfl
@[simp] theorem State.forgetHolder_mask (s : State) (m : Master) (e : EntryIx) : (s.forgetHolder m e).mask = s.mask := rfl
@[simp] theorem State.forgetHolder_contexts (s : State) (m : Master) (e : EntryIx) : (s.forgetHolder m e).contexts = s.contexts := rfl
@[simp] theorem State.forgetHolder_hazard (s : State) (m : Master) (e : EntryIx) : (s.forgetHolder m e).hazard = s.hazard := rfl
@[simp] theorem State.forgetHolder_nomon (s : State) (m : Master) (e : EntryIx) : (s.forgetHolder m e).nomon = s.nomon := rfl
@[simp] theorem State.forgetHolder_contention (s : State) (m : Master) (e : EntryIx) : (s.forgetHolder m e).contention = s.contention := rfl
@[simp] theorem State.forgetHolder_replies (s : State) (m : Master) (e : EntryIx) : (s.forgetHolder m e).replies = s.replies := rfl
@[simp] theorem State.forgetHolder_notices (s : State) (m : Master) (e : EntryIx) : (s.forgetHolder m e).notices = s.notices := rfl
@[simp] theorem State.forgetHolder_overflow (s : State) (m : Master) (e : EntryIx) : (s.forgetHolder m e).overflow = s.overflow := rfl
@[simp] theorem State.forgetHolder_discardMark (s : State) (m : Master) (e : EntryIx) : (s.forgetHolder m e).discardMark = s.discardMark := rfl
@[simp] theorem State.forgetHolder_link (s : State) (m : Master) (e : EntryIx) : (s.forgetHolder m e).link = s.link := rfl
@[simp] theorem State.forgetHolder_sampleTimer (s : State) (m : Master) (e : EntryIx) : (s.forgetHolder m e).sampleTimer = s.sampleTimer := rfl
@[simp] theorem State.forgetHolder_sampleLength (s : State) (m : Master) (e : EntryIx) : (s.forgetHolder m e).sampleLength = s.sampleLength := rfl
@[simp] theorem State.forgetHolder_atExpiry (s : State) (m : Master) (e : EntryIx) : (s.forgetHolder m e).atExpiry = s.atExpiry := rfl
@[simp] theorem State.forgetHolder_unitCounter (s : State) (m : Master) (e : EntryIx) : (s.forgetHolder m e).unitCounter = s.unitCounter := rfl
@[simp] theorem State.forgetHolder_refclkRunning (s : State) (m : Master) (e : EntryIx) : (s.forgetHolder m e).refclkRunning = s.refclkRunning := rfl
@[simp] theorem State.forgetHolder_resetLow (s : State) (m : Master) (e : EntryIx) : (s.forgetHolder m e).resetLow = s.resetLow := rfl
@[simp] theorem State.forgetHolder_inReset (s : State) (m : Master) (e : EntryIx) : (s.forgetHolder m e).inReset = s.inReset := rfl
@[simp] theorem State.forgetHolder_out (s : State) (m : Master) (e : EntryIx) : (s.forgetHolder m e).out = s.out := rfl
@[simp] theorem State.forgetHolder_draws (s : State) (m : Master) (e : EntryIx) : (s.forgetHolder m e).draws = s.draws := rfl
@[simp] theorem State.forgetHolder_pending (s : State) (m : Master) (e : EntryIx) : (s.forgetHolder m e).pending = s.pending := rfl
@[simp] theorem State.forgetHolder_ctx (s : State) (m : Master) (e : EntryIx) (i : Master) : (s.forgetHolder m e).ctx i = s.ctx i := rfl
@[simp] theorem State.forgetHolder_entry (s : State) (m : Master) (e : EntryIx) (i : EntryIx) : (s.forgetHolder m e).entry i = s.entry i := rfl
@[simp] theorem State.forgetHolder_window (s : State) (m : Master) (e : EntryIx) (i : WindowIx) : (s.forgetHolder m e).window i = s.window i := rfl

/-! What `State.disarmGranule` leaves unchanged. -/

@[simp] theorem State.disarmGranule_windows (s : State) (g : Granule) : (s.disarmGranule g).windows = s.windows := rfl
@[simp] theorem State.disarmGranule_mon (s : State) (g : Granule) : (s.disarmGranule g).mon = s.mon := rfl
@[simp] theorem State.disarmGranule_sampleCode (s : State) (g : Granule) : (s.disarmGranule g).sampleCode = s.sampleCode := rfl
@[simp] theorem State.disarmGranule_mask (s : State) (g : Granule) : (s.disarmGranule g).mask = s.mask := rfl
@[simp] theorem State.disarmGranule_contexts (s : State) (g : Granule) : (s.disarmGranule g).contexts = s.contexts := rfl
@[simp] theorem State.disarmGranule_flight (s : State) (g : Granule) : (s.disarmGranule g).flight = s.flight := rfl
@[simp] theorem State.disarmGranule_hazard (s : State) (g : Granule) : (s.disarmGranule g).hazard = s.hazard := rfl
@[simp] theorem State.disarmGranule_nomon (s : State) (g : Granule) : (s.disarmGranule g).nomon = s.nomon := rfl
@[simp] theorem State.disarmGranule_contention (s : State) (g : Granule) : (s.disarmGranule g).contention = s.contention := rfl
@[simp] theorem State.disarmGranule_replies (s : State) (g : Granule) : (s.disarmGranule g).replies = s.replies := rfl
@[simp] theorem State.disarmGranule_notices (s : State) (g : Granule) : (s.disarmGranule g).notices = s.notices := rfl
@[simp] theorem State.disarmGranule_overflow (s : State) (g : Granule) : (s.disarmGranule g).overflow = s.overflow := rfl
@[simp] theorem State.disarmGranule_discardMark (s : State) (g : Granule) : (s.disarmGranule g).discardMark = s.discardMark := rfl
@[simp] theorem State.disarmGranule_link (s : State) (g : Granule) : (s.disarmGranule g).link = s.link := rfl
@[simp] theorem State.disarmGranule_sampleTimer (s : State) (g : Granule) : (s.disarmGranule g).sampleTimer = s.sampleTimer := rfl
@[simp] theorem State.disarmGranule_sampleLength (s : State) (g : Granule) : (s.disarmGranule g).sampleLength = s.sampleLength := rfl
@[simp] theorem State.disarmGranule_atExpiry (s : State) (g : Granule) : (s.disarmGranule g).atExpiry = s.atExpiry := rfl
@[simp] theorem State.disarmGranule_unitCounter (s : State) (g : Granule) : (s.disarmGranule g).unitCounter = s.unitCounter := rfl
@[simp] theorem State.disarmGranule_refclkRunning (s : State) (g : Granule) : (s.disarmGranule g).refclkRunning = s.refclkRunning := rfl
@[simp] theorem State.disarmGranule_resetLow (s : State) (g : Granule) : (s.disarmGranule g).resetLow = s.resetLow := rfl
@[simp] theorem State.disarmGranule_inReset (s : State) (g : Granule) : (s.disarmGranule g).inReset = s.inReset := rfl
@[simp] theorem State.disarmGranule_out (s : State) (g : Granule) : (s.disarmGranule g).out = s.out := rfl
@[simp] theorem State.disarmGranule_draws (s : State) (g : Granule) : (s.disarmGranule g).draws = s.draws := rfl
@[simp] theorem State.disarmGranule_pending (s : State) (g : Granule) : (s.disarmGranule g).pending = s.pending := rfl
@[simp] theorem State.disarmGranule_ctx (s : State) (g : Granule) (i : Master) : (s.disarmGranule g).ctx i = s.ctx i := rfl
@[simp] theorem State.disarmGranule_entry (s : State) (g : Granule) (i : EntryIx) : (s.disarmGranule g).entry i = s.entry i := rfl
@[simp] theorem State.disarmGranule_window (s : State) (g : Granule) (i : WindowIx) : (s.disarmGranule g).window i = s.window i := rfl

/-! What `State.updLink` leaves unchanged. -/

@[simp] theorem State.updLink_windows (s : State) (f : Link → Link) : (s.updLink f).windows = s.windows := rfl
@[simp] theorem State.updLink_mon (s : State) (f : Link → Link) : (s.updLink f).mon = s.mon := rfl
@[simp] theorem State.updLink_sampleCode (s : State) (f : Link → Link) : (s.updLink f).sampleCode = s.sampleCode := rfl
@[simp] theorem State.updLink_mask (s : State) (f : Link → Link) : (s.updLink f).mask = s.mask := rfl
@[simp] theorem State.updLink_contexts (s : State) (f : Link → Link) : (s.updLink f).contexts = s.contexts := rfl
@[simp] theorem State.updLink_flight (s : State) (f : Link → Link) : (s.updLink f).flight = s.flight := rfl
@[simp] theorem State.updLink_hazard (s : State) (f : Link → Link) : (s.updLink f).hazard = s.hazard := rfl
@[simp] theorem State.updLink_nomon (s : State) (f : Link → Link) : (s.updLink f).nomon = s.nomon := rfl
@[simp] theorem State.updLink_released (s : State) (f : Link → Link) : (s.updLink f).released = s.released := rfl
@[simp] theorem State.updLink_contention (s : State) (f : Link → Link) : (s.updLink f).contention = s.contention := rfl
@[simp] theorem State.updLink_replies (s : State) (f : Link → Link) : (s.updLink f).replies = s.replies := rfl
@[simp] theorem State.updLink_notices (s : State) (f : Link → Link) : (s.updLink f).notices = s.notices := rfl
@[simp] theorem State.updLink_overflow (s : State) (f : Link → Link) : (s.updLink f).overflow = s.overflow := rfl
@[simp] theorem State.updLink_discardMark (s : State) (f : Link → Link) : (s.updLink f).discardMark = s.discardMark := rfl
@[simp] theorem State.updLink_sampleTimer (s : State) (f : Link → Link) : (s.updLink f).sampleTimer = s.sampleTimer := rfl
@[simp] theorem State.updLink_sampleLength (s : State) (f : Link → Link) : (s.updLink f).sampleLength = s.sampleLength := rfl
@[simp] theorem State.updLink_atExpiry (s : State) (f : Link → Link) : (s.updLink f).atExpiry = s.atExpiry := rfl
@[simp] theorem State.updLink_unitCounter (s : State) (f : Link → Link) : (s.updLink f).unitCounter = s.unitCounter := rfl
@[simp] theorem State.updLink_refclkRunning (s : State) (f : Link → Link) : (s.updLink f).refclkRunning = s.refclkRunning := rfl
@[simp] theorem State.updLink_resetLow (s : State) (f : Link → Link) : (s.updLink f).resetLow = s.resetLow := rfl
@[simp] theorem State.updLink_inReset (s : State) (f : Link → Link) : (s.updLink f).inReset = s.inReset := rfl
@[simp] theorem State.updLink_out (s : State) (f : Link → Link) : (s.updLink f).out = s.out := rfl
@[simp] theorem State.updLink_draws (s : State) (f : Link → Link) : (s.updLink f).draws = s.draws := rfl
@[simp] theorem State.updLink_pending (s : State) (f : Link → Link) : (s.updLink f).pending = s.pending := rfl
@[simp] theorem State.updLink_ctx (s : State) (f : Link → Link) (i : Master) : (s.updLink f).ctx i = s.ctx i := rfl
@[simp] theorem State.updLink_entry (s : State) (f : Link → Link) (i : EntryIx) : (s.updLink f).entry i = s.entry i := rfl
@[simp] theorem State.updLink_window (s : State) (f : Link → Link) (i : WindowIx) : (s.updLink f).window i = s.window i := rfl

/-! What `State.updWindow` leaves unchanged. -/

@[simp] theorem State.updWindow_mon (s : State) (w : WindowIx) (f : Window → Window) : (s.updWindow w f).mon = s.mon := by
  simp only [State.updWindow]
@[simp] theorem State.updWindow_sampleCode (s : State) (w : WindowIx) (f : Window → Window) : (s.updWindow w f).sampleCode = s.sampleCode := by
  simp only [State.updWindow]
@[simp] theorem State.updWindow_mask (s : State) (w : WindowIx) (f : Window → Window) : (s.updWindow w f).mask = s.mask := by
  simp only [State.updWindow]
@[simp] theorem State.updWindow_contexts (s : State) (w : WindowIx) (f : Window → Window) : (s.updWindow w f).contexts = s.contexts := by
  simp only [State.updWindow]
@[simp] theorem State.updWindow_flight (s : State) (w : WindowIx) (f : Window → Window) : (s.updWindow w f).flight = s.flight := by
  simp only [State.updWindow]
@[simp] theorem State.updWindow_hazard (s : State) (w : WindowIx) (f : Window → Window) : (s.updWindow w f).hazard = s.hazard := by
  simp only [State.updWindow]
@[simp] theorem State.updWindow_nomon (s : State) (w : WindowIx) (f : Window → Window) : (s.updWindow w f).nomon = s.nomon := by
  simp only [State.updWindow]
@[simp] theorem State.updWindow_released (s : State) (w : WindowIx) (f : Window → Window) : (s.updWindow w f).released = s.released := by
  simp only [State.updWindow]
@[simp] theorem State.updWindow_contention (s : State) (w : WindowIx) (f : Window → Window) : (s.updWindow w f).contention = s.contention := by
  simp only [State.updWindow]
@[simp] theorem State.updWindow_replies (s : State) (w : WindowIx) (f : Window → Window) : (s.updWindow w f).replies = s.replies := by
  simp only [State.updWindow]
@[simp] theorem State.updWindow_notices (s : State) (w : WindowIx) (f : Window → Window) : (s.updWindow w f).notices = s.notices := by
  simp only [State.updWindow]
@[simp] theorem State.updWindow_overflow (s : State) (w : WindowIx) (f : Window → Window) : (s.updWindow w f).overflow = s.overflow := by
  simp only [State.updWindow]
@[simp] theorem State.updWindow_discardMark (s : State) (w : WindowIx) (f : Window → Window) : (s.updWindow w f).discardMark = s.discardMark := by
  simp only [State.updWindow]
@[simp] theorem State.updWindow_link (s : State) (w : WindowIx) (f : Window → Window) : (s.updWindow w f).link = s.link := by
  simp only [State.updWindow]
@[simp] theorem State.updWindow_sampleTimer (s : State) (w : WindowIx) (f : Window → Window) : (s.updWindow w f).sampleTimer = s.sampleTimer := by
  simp only [State.updWindow]
@[simp] theorem State.updWindow_sampleLength (s : State) (w : WindowIx) (f : Window → Window) : (s.updWindow w f).sampleLength = s.sampleLength := by
  simp only [State.updWindow]
@[simp] theorem State.updWindow_atExpiry (s : State) (w : WindowIx) (f : Window → Window) : (s.updWindow w f).atExpiry = s.atExpiry := by
  simp only [State.updWindow]
@[simp] theorem State.updWindow_unitCounter (s : State) (w : WindowIx) (f : Window → Window) : (s.updWindow w f).unitCounter = s.unitCounter := by
  simp only [State.updWindow]
@[simp] theorem State.updWindow_refclkRunning (s : State) (w : WindowIx) (f : Window → Window) : (s.updWindow w f).refclkRunning = s.refclkRunning := by
  simp only [State.updWindow]
@[simp] theorem State.updWindow_resetLow (s : State) (w : WindowIx) (f : Window → Window) : (s.updWindow w f).resetLow = s.resetLow := by
  simp only [State.updWindow]
@[simp] theorem State.updWindow_inReset (s : State) (w : WindowIx) (f : Window → Window) : (s.updWindow w f).inReset = s.inReset := by
  simp only [State.updWindow]
@[simp] theorem State.updWindow_out (s : State) (w : WindowIx) (f : Window → Window) : (s.updWindow w f).out = s.out := by
  simp only [State.updWindow]
@[simp] theorem State.updWindow_draws (s : State) (w : WindowIx) (f : Window → Window) : (s.updWindow w f).draws = s.draws := by
  simp only [State.updWindow]
@[simp] theorem State.updWindow_pending (s : State) (w : WindowIx) (f : Window → Window) : (s.updWindow w f).pending = s.pending := by
  simp only [State.updWindow]
@[simp] theorem State.updWindow_ctx (s : State) (w : WindowIx) (f : Window → Window) (i : Master) : (s.updWindow w f).ctx i = s.ctx i := by
  simp only [State.ctx, State.updWindow]
@[simp] theorem State.updWindow_entry (s : State) (w : WindowIx) (f : Window → Window) (i : EntryIx) : (s.updWindow w f).entry i = s.entry i := by
  simp only [State.entry, State.updWindow]

/-! What `State.clearAll` leaves unchanged. -/

@[simp] theorem State.clearAll_windows (s : State) : (s.clearAll).windows = s.windows := by
  simp only [State.clearAll, State.dissolve, State.mapEntries, State.mapCtx]
@[simp] theorem State.clearAll_mon (s : State) : (s.clearAll).mon = s.mon := by
  simp only [State.clearAll, State.dissolve, State.mapEntries, State.mapCtx]
@[simp] theorem State.clearAll_sampleCode (s : State) : (s.clearAll).sampleCode = s.sampleCode := by
  simp only [State.clearAll, State.dissolve, State.mapEntries, State.mapCtx]
@[simp] theorem State.clearAll_mask (s : State) : (s.clearAll).mask = s.mask := by
  simp only [State.clearAll, State.dissolve, State.mapEntries, State.mapCtx]
@[simp] theorem State.clearAll_nomon (s : State) : (s.clearAll).nomon = s.nomon := by
  simp only [State.clearAll, State.dissolve, State.mapEntries, State.mapCtx]
@[simp] theorem State.clearAll_replies (s : State) : (s.clearAll).replies = s.replies := by
  simp only [State.clearAll, State.dissolve, State.mapEntries, State.mapCtx]
@[simp] theorem State.clearAll_discardMark (s : State) : (s.clearAll).discardMark = s.discardMark := by
  simp only [State.clearAll, State.dissolve, State.mapEntries, State.mapCtx]
@[simp] theorem State.clearAll_link (s : State) : (s.clearAll).link = s.link := by
  simp only [State.clearAll, State.dissolve, State.mapEntries, State.mapCtx]
@[simp] theorem State.clearAll_sampleTimer (s : State) : (s.clearAll).sampleTimer = s.sampleTimer := by
  simp only [State.clearAll, State.dissolve, State.mapEntries, State.mapCtx]
@[simp] theorem State.clearAll_sampleLength (s : State) : (s.clearAll).sampleLength = s.sampleLength := by
  simp only [State.clearAll, State.dissolve, State.mapEntries, State.mapCtx]
@[simp] theorem State.clearAll_atExpiry (s : State) : (s.clearAll).atExpiry = s.atExpiry := by
  simp only [State.clearAll, State.dissolve, State.mapEntries, State.mapCtx]
@[simp] theorem State.clearAll_unitCounter (s : State) : (s.clearAll).unitCounter = s.unitCounter := by
  simp only [State.clearAll, State.dissolve, State.mapEntries, State.mapCtx]
@[simp] theorem State.clearAll_refclkRunning (s : State) : (s.clearAll).refclkRunning = s.refclkRunning := by
  simp only [State.clearAll, State.dissolve, State.mapEntries, State.mapCtx]
@[simp] theorem State.clearAll_resetLow (s : State) : (s.clearAll).resetLow = s.resetLow := by
  simp only [State.clearAll, State.dissolve, State.mapEntries, State.mapCtx]
@[simp] theorem State.clearAll_inReset (s : State) : (s.clearAll).inReset = s.inReset := by
  simp only [State.clearAll, State.dissolve, State.mapEntries, State.mapCtx]
@[simp] theorem State.clearAll_out (s : State) : (s.clearAll).out = s.out := by
  simp only [State.clearAll, State.dissolve, State.mapEntries, State.mapCtx]
@[simp] theorem State.clearAll_draws (s : State) : (s.clearAll).draws = s.draws := by
  simp only [State.clearAll, State.dissolve, State.mapEntries, State.mapCtx]
@[simp] theorem State.clearAll_pending (s : State) : (s.clearAll).pending = s.pending := by
  simp only [State.clearAll, State.dissolve, State.mapEntries, State.mapCtx]
@[simp] theorem State.clearAll_window (s : State) (i : WindowIx) : (s.clearAll).window i = s.window i := by
  simp only [State.window, State.clearAll, State.dissolve, State.mapEntries, State.mapCtx]

/-! What `State.releaseHazards` leaves unchanged. -/

@[simp] theorem State.releaseHazards_windows (s : State) : (s.releaseHazards).windows = s.windows := by
  simp only [State.releaseHazards, State.mapCtx]
@[simp] theorem State.releaseHazards_mon (s : State) : (s.releaseHazards).mon = s.mon := by
  simp only [State.releaseHazards, State.mapCtx]
@[simp] theorem State.releaseHazards_sampleCode (s : State) : (s.releaseHazards).sampleCode = s.sampleCode := by
  simp only [State.releaseHazards, State.mapCtx]
@[simp] theorem State.releaseHazards_mask (s : State) : (s.releaseHazards).mask = s.mask := by
  simp only [State.releaseHazards, State.mapCtx]
@[simp] theorem State.releaseHazards_flight (s : State) : (s.releaseHazards).flight = s.flight := by
  simp only [State.releaseHazards, State.mapCtx]
@[simp] theorem State.releaseHazards_nomon (s : State) : (s.releaseHazards).nomon = s.nomon := by
  simp only [State.releaseHazards, State.mapCtx]
@[simp] theorem State.releaseHazards_contention (s : State) : (s.releaseHazards).contention = s.contention := by
  simp only [State.releaseHazards, State.mapCtx]
@[simp] theorem State.releaseHazards_replies (s : State) : (s.releaseHazards).replies = s.replies := by
  simp only [State.releaseHazards, State.mapCtx]
@[simp] theorem State.releaseHazards_notices (s : State) : (s.releaseHazards).notices = s.notices := by
  simp only [State.releaseHazards, State.mapCtx]
@[simp] theorem State.releaseHazards_overflow (s : State) : (s.releaseHazards).overflow = s.overflow := by
  simp only [State.releaseHazards, State.mapCtx]
@[simp] theorem State.releaseHazards_discardMark (s : State) : (s.releaseHazards).discardMark = s.discardMark := by
  simp only [State.releaseHazards, State.mapCtx]
@[simp] theorem State.releaseHazards_link (s : State) : (s.releaseHazards).link = s.link := by
  simp only [State.releaseHazards, State.mapCtx]
@[simp] theorem State.releaseHazards_sampleTimer (s : State) : (s.releaseHazards).sampleTimer = s.sampleTimer := by
  simp only [State.releaseHazards, State.mapCtx]
@[simp] theorem State.releaseHazards_sampleLength (s : State) : (s.releaseHazards).sampleLength = s.sampleLength := by
  simp only [State.releaseHazards, State.mapCtx]
@[simp] theorem State.releaseHazards_atExpiry (s : State) : (s.releaseHazards).atExpiry = s.atExpiry := by
  simp only [State.releaseHazards, State.mapCtx]
@[simp] theorem State.releaseHazards_unitCounter (s : State) : (s.releaseHazards).unitCounter = s.unitCounter := by
  simp only [State.releaseHazards, State.mapCtx]
@[simp] theorem State.releaseHazards_refclkRunning (s : State) : (s.releaseHazards).refclkRunning = s.refclkRunning := by
  simp only [State.releaseHazards, State.mapCtx]
@[simp] theorem State.releaseHazards_resetLow (s : State) : (s.releaseHazards).resetLow = s.resetLow := by
  simp only [State.releaseHazards, State.mapCtx]
@[simp] theorem State.releaseHazards_inReset (s : State) : (s.releaseHazards).inReset = s.inReset := by
  simp only [State.releaseHazards, State.mapCtx]
@[simp] theorem State.releaseHazards_out (s : State) : (s.releaseHazards).out = s.out := by
  simp only [State.releaseHazards, State.mapCtx]
@[simp] theorem State.releaseHazards_draws (s : State) : (s.releaseHazards).draws = s.draws := by
  simp only [State.releaseHazards, State.mapCtx]
@[simp] theorem State.releaseHazards_pending (s : State) : (s.releaseHazards).pending = s.pending := by
  simp only [State.releaseHazards, State.mapCtx]
@[simp] theorem State.releaseHazards_entry (s : State) (i : EntryIx) : (s.releaseHazards).entry i = s.entry i := by
  simp only [State.entry, State.releaseHazards, State.mapCtx]
@[simp] theorem State.releaseHazards_window (s : State) (i : WindowIx) : (s.releaseHazards).window i = s.window i := by
  simp only [State.window, State.releaseHazards, State.mapCtx]

/-! What `State.mcsRise` leaves unchanged. -/

@[simp] theorem State.mcsRise_windows (s : State) : (s.mcsRise).windows = s.windows := rfl
@[simp] theorem State.mcsRise_mon (s : State) : (s.mcsRise).mon = s.mon := rfl
@[simp] theorem State.mcsRise_sampleCode (s : State) : (s.mcsRise).sampleCode = s.sampleCode := rfl
@[simp] theorem State.mcsRise_mask (s : State) : (s.mcsRise).mask = s.mask := rfl
@[simp] theorem State.mcsRise_contexts (s : State) : (s.mcsRise).contexts = s.contexts := rfl
@[simp] theorem State.mcsRise_flight (s : State) : (s.mcsRise).flight = s.flight := rfl
@[simp] theorem State.mcsRise_hazard (s : State) : (s.mcsRise).hazard = s.hazard := rfl
@[simp] theorem State.mcsRise_nomon (s : State) : (s.mcsRise).nomon = s.nomon := rfl
@[simp] theorem State.mcsRise_released (s : State) : (s.mcsRise).released = s.released := rfl
@[simp] theorem State.mcsRise_contention (s : State) : (s.mcsRise).contention = s.contention := rfl
@[simp] theorem State.mcsRise_replies (s : State) : (s.mcsRise).replies = s.replies := rfl
@[simp] theorem State.mcsRise_notices (s : State) : (s.mcsRise).notices = s.notices := rfl
@[simp] theorem State.mcsRise_overflow (s : State) : (s.mcsRise).overflow = s.overflow := rfl
@[simp] theorem State.mcsRise_discardMark (s : State) : (s.mcsRise).discardMark = s.discardMark := rfl
@[simp] theorem State.mcsRise_sampleTimer (s : State) : (s.mcsRise).sampleTimer = s.sampleTimer := rfl
@[simp] theorem State.mcsRise_sampleLength (s : State) : (s.mcsRise).sampleLength = s.sampleLength := rfl
@[simp] theorem State.mcsRise_atExpiry (s : State) : (s.mcsRise).atExpiry = s.atExpiry := rfl
@[simp] theorem State.mcsRise_unitCounter (s : State) : (s.mcsRise).unitCounter = s.unitCounter := rfl
@[simp] theorem State.mcsRise_refclkRunning (s : State) : (s.mcsRise).refclkRunning = s.refclkRunning := rfl
@[simp] theorem State.mcsRise_resetLow (s : State) : (s.mcsRise).resetLow = s.resetLow := rfl
@[simp] theorem State.mcsRise_inReset (s : State) : (s.mcsRise).inReset = s.inReset := rfl
@[simp] theorem State.mcsRise_out (s : State) : (s.mcsRise).out = s.out := rfl
@[simp] theorem State.mcsRise_draws (s : State) : (s.mcsRise).draws = s.draws := rfl
@[simp] theorem State.mcsRise_pending (s : State) : (s.mcsRise).pending = s.pending := rfl
@[simp] theorem State.mcsRise_ctx (s : State) (i : Master) : (s.mcsRise).ctx i = s.ctx i := rfl
@[simp] theorem State.mcsRise_entry (s : State) (i : EntryIx) : (s.mcsRise).entry i = s.entry i := rfl
@[simp] theorem State.mcsRise_window (s : State) (i : WindowIx) : (s.mcsRise).window i = s.window i := rfl

/-! What `State.seeRelease` leaves unchanged. -/

@[simp] theorem State.seeRelease_windows (s : State) : (s.seeRelease).windows = s.windows := rfl
@[simp] theorem State.seeRelease_mon (s : State) : (s.seeRelease).mon = s.mon := rfl
@[simp] theorem State.seeRelease_sampleCode (s : State) : (s.seeRelease).sampleCode = s.sampleCode := rfl
@[simp] theorem State.seeRelease_mask (s : State) : (s.seeRelease).mask = s.mask := rfl
@[simp] theorem State.seeRelease_contexts (s : State) : (s.seeRelease).contexts = s.contexts := rfl
@[simp] theorem State.seeRelease_flight (s : State) : (s.seeRelease).flight = s.flight := rfl
@[simp] theorem State.seeRelease_hazard (s : State) : (s.seeRelease).hazard = s.hazard := rfl
@[simp] theorem State.seeRelease_nomon (s : State) : (s.seeRelease).nomon = s.nomon := rfl
@[simp] theorem State.seeRelease_released (s : State) : (s.seeRelease).released = s.released := rfl
@[simp] theorem State.seeRelease_contention (s : State) : (s.seeRelease).contention = s.contention := rfl
@[simp] theorem State.seeRelease_replies (s : State) : (s.seeRelease).replies = s.replies := rfl
@[simp] theorem State.seeRelease_notices (s : State) : (s.seeRelease).notices = s.notices := rfl
@[simp] theorem State.seeRelease_overflow (s : State) : (s.seeRelease).overflow = s.overflow := rfl
@[simp] theorem State.seeRelease_discardMark (s : State) : (s.seeRelease).discardMark = s.discardMark := rfl
@[simp] theorem State.seeRelease_link (s : State) : (s.seeRelease).link = s.link := rfl
@[simp] theorem State.seeRelease_sampleTimer (s : State) : (s.seeRelease).sampleTimer = s.sampleTimer := rfl
@[simp] theorem State.seeRelease_sampleLength (s : State) : (s.seeRelease).sampleLength = s.sampleLength := rfl
@[simp] theorem State.seeRelease_atExpiry (s : State) : (s.seeRelease).atExpiry = s.atExpiry := rfl
@[simp] theorem State.seeRelease_unitCounter (s : State) : (s.seeRelease).unitCounter = s.unitCounter := rfl
@[simp] theorem State.seeRelease_refclkRunning (s : State) : (s.seeRelease).refclkRunning = s.refclkRunning := rfl
@[simp] theorem State.seeRelease_resetLow (s : State) : (s.seeRelease).resetLow = s.resetLow := rfl
@[simp] theorem State.seeRelease_out (s : State) : (s.seeRelease).out = s.out := rfl
@[simp] theorem State.seeRelease_draws (s : State) : (s.seeRelease).draws = s.draws := rfl
@[simp] theorem State.seeRelease_pending (s : State) : (s.seeRelease).pending = s.pending := rfl
@[simp] theorem State.seeRelease_ctx (s : State) (i : Master) : (s.seeRelease).ctx i = s.ctx i := rfl
@[simp] theorem State.seeRelease_entry (s : State) (i : EntryIx) : (s.seeRelease).entry i = s.entry i := rfl
@[simp] theorem State.seeRelease_window (s : State) (i : WindowIx) : (s.seeRelease).window i = s.window i := rfl

end Sys2Proof.Machine
end

