-- ==== Sys2Proof/Laws/Ops.lean ====
section
/-! SUPPORT. What the shared operations built from others leave unchanged. -/

namespace Sys2Proof.Machine

/-- A fold keeps what each of its steps keeps. -/
theorem foldl_keeps {α β γ : Type} (view : α → γ) {f : α → β → α} (h : ∀ a b, view (f a b) = view a) (l : List β) (a : α) :
    view (l.foldl f a) = view a := by
  induction l generalizing a with
  | nil => rfl
  | cons b l ih => rw [List.foldl_cons, ih, h]

/-! What `State.notify` leaves unchanged. -/

theorem State.notify_keeps (s : State) (n : Notice) :
    (s.notify n).windows = s.windows ∧
    (s.notify n).mon = s.mon ∧
    (s.notify n).sampleCode = s.sampleCode ∧
    (s.notify n).mask = s.mask ∧
    (s.notify n).contexts = s.contexts ∧
    (s.notify n).flight = s.flight ∧
    (s.notify n).hazard = s.hazard ∧
    (s.notify n).nomon = s.nomon ∧
    (s.notify n).released = s.released ∧
    (s.notify n).contention = s.contention ∧
    (s.notify n).replies = s.replies ∧
    (s.notify n).link = s.link ∧
    (s.notify n).sampleTimer = s.sampleTimer ∧
    (s.notify n).sampleLength = s.sampleLength ∧
    (s.notify n).atExpiry = s.atExpiry ∧
    (s.notify n).unitCounter = s.unitCounter ∧
    (s.notify n).refclkRunning = s.refclkRunning ∧
    (s.notify n).resetLow = s.resetLow ∧
    (s.notify n).inReset = s.inReset ∧
    (s.notify n).out = s.out ∧
    (s.notify n).draws = s.draws ∧
    (s.notify n).pending = s.pending := by
  unfold State.notify; split_ifs <;> simp
@[simp] theorem State.notify_windows (s : State) (n : Notice) : (s.notify n).windows = s.windows := (s.notify_keeps n).1
@[simp] theorem State.notify_mon (s : State) (n : Notice) : (s.notify n).mon = s.mon := (s.notify_keeps n).2.1
@[simp] theorem State.notify_sampleCode (s : State) (n : Notice) : (s.notify n).sampleCode = s.sampleCode := (s.notify_keeps n).2.2.1
@[simp] theorem State.notify_mask (s : State) (n : Notice) : (s.notify n).mask = s.mask := (s.notify_keeps n).2.2.2.1
@[simp] theorem State.notify_contexts (s : State) (n : Notice) : (s.notify n).contexts = s.contexts := (s.notify_keeps n).2.2.2.2.1
@[simp] theorem State.notify_flight (s : State) (n : Notice) : (s.notify n).flight = s.flight := (s.notify_keeps n).2.2.2.2.2.1
@[simp] theorem State.notify_hazard (s : State) (n : Notice) : (s.notify n).hazard = s.hazard := (s.notify_keeps n).2.2.2.2.2.2.1
@[simp] theorem State.notify_nomon (s : State) (n : Notice) : (s.notify n).nomon = s.nomon := (s.notify_keeps n).2.2.2.2.2.2.2.1
@[simp] theorem State.notify_released (s : State) (n : Notice) : (s.notify n).released = s.released := (s.notify_keeps n).2.2.2.2.2.2.2.2.1
@[simp] theorem State.notify_contention (s : State) (n : Notice) : (s.notify n).contention = s.contention := (s.notify_keeps n).2.2.2.2.2.2.2.2.2.1
@[simp] theorem State.notify_replies (s : State) (n : Notice) : (s.notify n).replies = s.replies := (s.notify_keeps n).2.2.2.2.2.2.2.2.2.2.1
@[simp] theorem State.notify_link (s : State) (n : Notice) : (s.notify n).link = s.link := (s.notify_keeps n).2.2.2.2.2.2.2.2.2.2.2.1
@[simp] theorem State.notify_sampleTimer (s : State) (n : Notice) : (s.notify n).sampleTimer = s.sampleTimer := (s.notify_keeps n).2.2.2.2.2.2.2.2.2.2.2.2.1
@[simp] theorem State.notify_sampleLength (s : State) (n : Notice) : (s.notify n).sampleLength = s.sampleLength := (s.notify_keeps n).2.2.2.2.2.2.2.2.2.2.2.2.2.1
@[simp] theorem State.notify_atExpiry (s : State) (n : Notice) : (s.notify n).atExpiry = s.atExpiry := (s.notify_keeps n).2.2.2.2.2.2.2.2.2.2.2.2.2.2.1
@[simp] theorem State.notify_unitCounter (s : State) (n : Notice) : (s.notify n).unitCounter = s.unitCounter := (s.notify_keeps n).2.2.2.2.2.2.2.2.2.2.2.2.2.2.2.1
@[simp] theorem State.notify_refclkRunning (s : State) (n : Notice) : (s.notify n).refclkRunning = s.refclkRunning := (s.notify_keeps n).2.2.2.2.2.2.2.2.2.2.2.2.2.2.2.2.1
@[simp] theorem State.notify_resetLow (s : State) (n : Notice) : (s.notify n).resetLow = s.resetLow := (s.notify_keeps n).2.2.2.2.2.2.2.2.2.2.2.2.2.2.2.2.2.1
@[simp] theorem State.notify_inReset (s : State) (n : Notice) : (s.notify n).inReset = s.inReset := (s.notify_keeps n).2.2.2.2.2.2.2.2.2.2.2.2.2.2.2.2.2.2.1
@[simp] theorem State.notify_out (s : State) (n : Notice) : (s.notify n).out = s.out := (s.notify_keeps n).2.2.2.2.2.2.2.2.2.2.2.2.2.2.2.2.2.2.2.1
@[simp] theorem State.notify_draws (s : State) (n : Notice) : (s.notify n).draws = s.draws := (s.notify_keeps n).2.2.2.2.2.2.2.2.2.2.2.2.2.2.2.2.2.2.2.2.1
@[simp] theorem State.notify_pending (s : State) (n : Notice) : (s.notify n).pending = s.pending := (s.notify_keeps n).2.2.2.2.2.2.2.2.2.2.2.2.2.2.2.2.2.2.2.2.2
@[simp] theorem State.notify_ctx (s : State) (n : Notice) (i : Master) : (s.notify n).ctx i = s.ctx i := by
  simp only [State.ctx, State.notify_contexts]
@[simp] theorem State.notify_entry (s : State) (n : Notice) (i : EntryIx) : (s.notify n).entry i = s.entry i := by
  simp only [State.entry, State.notify_contention]
@[simp] theorem State.notify_window (s : State) (n : Notice) (i : WindowIx) : (s.notify n).window i = s.window i := by
  simp only [State.window, State.notify_windows]

/-! What `State.clearOwn` leaves unchanged. -/

theorem State.clearOwn_keeps (s : State) (m : Master) (g : Granule) :
    (s.clearOwn m g).windows = s.windows ∧
    (s.clearOwn m g).mon = s.mon ∧
    (s.clearOwn m g).sampleCode = s.sampleCode ∧
    (s.clearOwn m g).mask = s.mask ∧
    (s.clearOwn m g).hazard = s.hazard ∧
    (s.clearOwn m g).nomon = s.nomon ∧
    (s.clearOwn m g).contention = s.contention ∧
    (s.clearOwn m g).replies = s.replies ∧
    (s.clearOwn m g).notices = s.notices ∧
    (s.clearOwn m g).overflow = s.overflow ∧
    (s.clearOwn m g).discardMark = s.discardMark ∧
    (s.clearOwn m g).link = s.link ∧
    (s.clearOwn m g).sampleTimer = s.sampleTimer ∧
    (s.clearOwn m g).sampleLength = s.sampleLength ∧
    (s.clearOwn m g).atExpiry = s.atExpiry ∧
    (s.clearOwn m g).unitCounter = s.unitCounter ∧
    (s.clearOwn m g).refclkRunning = s.refclkRunning ∧
    (s.clearOwn m g).resetLow = s.resetLow ∧
    (s.clearOwn m g).inReset = s.inReset ∧
    (s.clearOwn m g).out = s.out ∧
    (s.clearOwn m g).draws = s.draws ∧
    (s.clearOwn m g).pending = s.pending := by
  unfold State.clearOwn; split_ifs <;> simp
@[simp] theorem State.clearOwn_windows (s : State) (m : Master) (g : Granule) : (s.clearOwn m g).windows = s.windows := (s.clearOwn_keeps m g).1
@[simp] theorem State.clearOwn_mon (s : State) (m : Master) (g : Granule) : (s.clearOwn m g).mon = s.mon := (s.clearOwn_keeps m g).2.1
@[simp] theorem State.clearOwn_sampleCode (s : State) (m : Master) (g : Granule) : (s.clearOwn m g).sampleCode = s.sampleCode := (s.clearOwn_keeps m g).2.2.1
@[simp] theorem State.clearOwn_mask (s : State) (m : Master) (g : Granule) : (s.clearOwn m g).mask = s.mask := (s.clearOwn_keeps m g).2.2.2.1
@[simp] theorem State.clearOwn_hazard (s : State) (m : Master) (g : Granule) : (s.clearOwn m g).hazard = s.hazard := (s.clearOwn_keeps m g).2.2.2.2.1
@[simp] theorem State.clearOwn_nomon (s : State) (m : Master) (g : Granule) : (s.clearOwn m g).nomon = s.nomon := (s.clearOwn_keeps m g).2.2.2.2.2.1
@[simp] theorem State.clearOwn_contention (s : State) (m : Master) (g : Granule) : (s.clearOwn m g).contention = s.contention := (s.clearOwn_keeps m g).2.2.2.2.2.2.1
@[simp] theorem State.clearOwn_replies (s : State) (m : Master) (g : Granule) : (s.clearOwn m g).replies = s.replies := (s.clearOwn_keeps m g).2.2.2.2.2.2.2.1
@[simp] theorem State.clearOwn_notices (s : State) (m : Master) (g : Granule) : (s.clearOwn m g).notices = s.notices := (s.clearOwn_keeps m g).2.2.2.2.2.2.2.2.1
@[simp] theorem State.clearOwn_overflow (s : State) (m : Master) (g : Granule) : (s.clearOwn m g).overflow = s.overflow := (s.clearOwn_keeps m g).2.2.2.2.2.2.2.2.2.1
@[simp] theorem State.clearOwn_discardMark (s : State) (m : Master) (g : Granule) : (s.clearOwn m g).discardMark = s.discardMark := (s.clearOwn_keeps m g).2.2.2.2.2.2.2.2.2.2.1
@[simp] theorem State.clearOwn_link (s : State) (m : Master) (g : Granule) : (s.clearOwn m g).link = s.link := (s.clearOwn_keeps m g).2.2.2.2.2.2.2.2.2.2.2.1
@[simp] theorem State.clearOwn_sampleTimer (s : State) (m : Master) (g : Granule) : (s.clearOwn m g).sampleTimer = s.sampleTimer := (s.clearOwn_keeps m g).2.2.2.2.2.2.2.2.2.2.2.2.1
@[simp] theorem State.clearOwn_sampleLength (s : State) (m : Master) (g : Granule) : (s.clearOwn m g).sampleLength = s.sampleLength := (s.clearOwn_keeps m g).2.2.2.2.2.2.2.2.2.2.2.2.2.1
@[simp] theorem State.clearOwn_atExpiry (s : State) (m : Master) (g : Granule) : (s.clearOwn m g).atExpiry = s.atExpiry := (s.clearOwn_keeps m g).2.2.2.2.2.2.2.2.2.2.2.2.2.2.1
@[simp] theorem State.clearOwn_unitCounter (s : State) (m : Master) (g : Granule) : (s.clearOwn m g).unitCounter = s.unitCounter := (s.clearOwn_keeps m g).2.2.2.2.2.2.2.2.2.2.2.2.2.2.2.1
@[simp] theorem State.clearOwn_refclkRunning (s : State) (m : Master) (g : Granule) : (s.clearOwn m g).refclkRunning = s.refclkRunning := (s.clearOwn_keeps m g).2.2.2.2.2.2.2.2.2.2.2.2.2.2.2.2.1
@[simp] theorem State.clearOwn_resetLow (s : State) (m : Master) (g : Granule) : (s.clearOwn m g).resetLow = s.resetLow := (s.clearOwn_keeps m g).2.2.2.2.2.2.2.2.2.2.2.2.2.2.2.2.2.1
@[simp] theorem State.clearOwn_inReset (s : State) (m : Master) (g : Granule) : (s.clearOwn m g).inReset = s.inReset := (s.clearOwn_keeps m g).2.2.2.2.2.2.2.2.2.2.2.2.2.2.2.2.2.2.1
@[simp] theorem State.clearOwn_out (s : State) (m : Master) (g : Granule) : (s.clearOwn m g).out = s.out := (s.clearOwn_keeps m g).2.2.2.2.2.2.2.2.2.2.2.2.2.2.2.2.2.2.2.1
@[simp] theorem State.clearOwn_draws (s : State) (m : Master) (g : Granule) : (s.clearOwn m g).draws = s.draws := (s.clearOwn_keeps m g).2.2.2.2.2.2.2.2.2.2.2.2.2.2.2.2.2.2.2.2.1
@[simp] theorem State.clearOwn_pending (s : State) (m : Master) (g : Granule) : (s.clearOwn m g).pending = s.pending := (s.clearOwn_keeps m g).2.2.2.2.2.2.2.2.2.2.2.2.2.2.2.2.2.2.2.2.2
@[simp] theorem State.clearOwn_entry (s : State) (m : Master) (g : Granule) (i : EntryIx) : (s.clearOwn m g).entry i = s.entry i := by
  simp only [State.entry, State.clearOwn_contention]
@[simp] theorem State.clearOwn_window (s : State) (m : Master) (g : Granule) (i : WindowIx) : (s.clearOwn m g).window i = s.window i := by
  simp only [State.window, State.clearOwn_windows]

/-! What `State.endHolding` leaves unchanged. -/

theorem State.endHolding_keeps (s : State) (e : EntryIx) :
    (s.endHolding e).windows = s.windows ∧
    (s.endHolding e).mon = s.mon ∧
    (s.endHolding e).sampleCode = s.sampleCode ∧
    (s.endHolding e).mask = s.mask ∧
    (s.endHolding e).nomon = s.nomon ∧
    (s.endHolding e).replies = s.replies ∧
    (s.endHolding e).notices = s.notices ∧
    (s.endHolding e).overflow = s.overflow ∧
    (s.endHolding e).discardMark = s.discardMark ∧
    (s.endHolding e).link = s.link ∧
    (s.endHolding e).sampleTimer = s.sampleTimer ∧
    (s.endHolding e).sampleLength = s.sampleLength ∧
    (s.endHolding e).atExpiry = s.atExpiry ∧
    (s.endHolding e).unitCounter = s.unitCounter ∧
    (s.endHolding e).refclkRunning = s.refclkRunning ∧
    (s.endHolding e).resetLow = s.resetLow ∧
    (s.endHolding e).inReset = s.inReset ∧
    (s.endHolding e).out = s.out ∧
    (s.endHolding e).draws = s.draws ∧
    (s.endHolding e).pending = s.pending := by
  unfold State.endHolding; split
  · simp
  · simp
@[simp] theorem State.endHolding_windows (s : State) (e : EntryIx) : (s.endHolding e).windows = s.windows := (s.endHolding_keeps e).1
@[simp] theorem State.endHolding_mon (s : State) (e : EntryIx) : (s.endHolding e).mon = s.mon := (s.endHolding_keeps e).2.1
@[simp] theorem State.endHolding_sampleCode (s : State) (e : EntryIx) : (s.endHolding e).sampleCode = s.sampleCode := (s.endHolding_keeps e).2.2.1
@[simp] theorem State.endHolding_mask (s : State) (e : EntryIx) : (s.endHolding e).mask = s.mask := (s.endHolding_keeps e).2.2.2.1
@[simp] theorem State.endHolding_nomon (s : State) (e : EntryIx) : (s.endHolding e).nomon = s.nomon := (s.endHolding_keeps e).2.2.2.2.1
@[simp] theorem State.endHolding_replies (s : State) (e : EntryIx) : (s.endHolding e).replies = s.replies := (s.endHolding_keeps e).2.2.2.2.2.1
@[simp] theorem State.endHolding_notices (s : State) (e : EntryIx) : (s.endHolding e).notices = s.notices := (s.endHolding_keeps e).2.2.2.2.2.2.1
@[simp] theorem State.endHolding_overflow (s : State) (e : EntryIx) : (s.endHolding e).overflow = s.overflow := (s.endHolding_keeps e).2.2.2.2.2.2.2.1
@[simp] theorem State.endHolding_discardMark (s : State) (e : EntryIx) : (s.endHolding e).discardMark = s.discardMark := (s.endHolding_keeps e).2.2.2.2.2.2.2.2.1
@[simp] theorem State.endHolding_link (s : State) (e : EntryIx) : (s.endHolding e).link = s.link := (s.endHolding_keeps e).2.2.2.2.2.2.2.2.2.1
@[simp] theorem State.endHolding_sampleTimer (s : State) (e : EntryIx) : (s.endHolding e).sampleTimer = s.sampleTimer := (s.endHolding_keeps e).2.2.2.2.2.2.2.2.2.2.1
@[simp] theorem State.endHolding_sampleLength (s : State) (e : EntryIx) : (s.endHolding e).sampleLength = s.sampleLength := (s.endHolding_keeps e).2.2.2.2.2.2.2.2.2.2.2.1
@[simp] theorem State.endHolding_atExpiry (s : State) (e : EntryIx) : (s.endHolding e).atExpiry = s.atExpiry := (s.endHolding_keeps e).2.2.2.2.2.2.2.2.2.2.2.2.1
@[simp] theorem State.endHolding_unitCounter (s : State) (e : EntryIx) : (s.endHolding e).unitCounter = s.unitCounter := (s.endHolding_keeps e).2.2.2.2.2.2.2.2.2.2.2.2.2.1
@[simp] theorem State.endHolding_refclkRunning (s : State) (e : EntryIx) : (s.endHolding e).refclkRunning = s.refclkRunning := (s.endHolding_keeps e).2.2.2.2.2.2.2.2.2.2.2.2.2.2.1
@[simp] theorem State.endHolding_resetLow (s : State) (e : EntryIx) : (s.endHolding e).resetLow = s.resetLow := (s.endHolding_keeps e).2.2.2.2.2.2.2.2.2.2.2.2.2.2.2.1
@[simp] theorem State.endHolding_inReset (s : State) (e : EntryIx) : (s.endHolding e).inReset = s.inReset := (s.endHolding_keeps e).2.2.2.2.2.2.2.2.2.2.2.2.2.2.2.2.1
@[simp] theorem State.endHolding_out (s : State) (e : EntryIx) : (s.endHolding e).out = s.out := (s.endHolding_keeps e).2.2.2.2.2.2.2.2.2.2.2.2.2.2.2.2.2.1
@[simp] theorem State.endHolding_draws (s : State) (e : EntryIx) : (s.endHolding e).draws = s.draws := (s.endHolding_keeps e).2.2.2.2.2.2.2.2.2.2.2.2.2.2.2.2.2.2.1
@[simp] theorem State.endHolding_pending (s : State) (e : EntryIx) : (s.endHolding e).pending = s.pending := (s.endHolding_keeps e).2.2.2.2.2.2.2.2.2.2.2.2.2.2.2.2.2.2.2
@[simp] theorem State.endHolding_window (s : State) (e : EntryIx) (i : WindowIx) : (s.endHolding e).window i = s.window i := by
  simp only [State.window, State.endHolding_windows]

/-! What `State.attemptGrant` leaves unchanged. -/

theorem State.attemptGrant_keeps (s : State) (e : EntryIx) :
    (s.attemptGrant e).windows = s.windows ∧
    (s.attemptGrant e).mon = s.mon ∧
    (s.attemptGrant e).sampleCode = s.sampleCode ∧
    (s.attemptGrant e).mask = s.mask ∧
    (s.attemptGrant e).flight = s.flight ∧
    (s.attemptGrant e).hazard = s.hazard ∧
    (s.attemptGrant e).nomon = s.nomon ∧
    (s.attemptGrant e).replies = s.replies ∧
    (s.attemptGrant e).notices = s.notices ∧
    (s.attemptGrant e).overflow = s.overflow ∧
    (s.attemptGrant e).discardMark = s.discardMark ∧
    (s.attemptGrant e).link = s.link ∧
    (s.attemptGrant e).sampleTimer = s.sampleTimer ∧
    (s.attemptGrant e).sampleLength = s.sampleLength ∧
    (s.attemptGrant e).atExpiry = s.atExpiry ∧
    (s.attemptGrant e).unitCounter = s.unitCounter ∧
    (s.attemptGrant e).refclkRunning = s.refclkRunning ∧
    (s.attemptGrant e).resetLow = s.resetLow ∧
    (s.attemptGrant e).inReset = s.inReset ∧
    (s.attemptGrant e).out = s.out ∧
    (s.attemptGrant e).draws = s.draws ∧
    (s.attemptGrant e).pending = s.pending := by
  unfold State.attemptGrant; split
  · simp
  · split_ifs <;> simp
@[simp] theorem State.attemptGrant_windows (s : State) (e : EntryIx) : (s.attemptGrant e).windows = s.windows := (s.attemptGrant_keeps e).1
@[simp] theorem State.attemptGrant_mon (s : State) (e : EntryIx) : (s.attemptGrant e).mon = s.mon := (s.attemptGrant_keeps e).2.1
@[simp] theorem State.attemptGrant_sampleCode (s : State) (e : EntryIx) : (s.attemptGrant e).sampleCode = s.sampleCode := (s.attemptGrant_keeps e).2.2.1
@[simp] theorem State.attemptGrant_mask (s : State) (e : EntryIx) : (s.attemptGrant e).mask = s.mask := (s.attemptGrant_keeps e).2.2.2.1
@[simp] theorem State.attemptGrant_flight (s : State) (e : EntryIx) : (s.attemptGrant e).flight = s.flight := (s.attemptGrant_keeps e).2.2.2.2.1
@[simp] theorem State.attemptGrant_hazard (s : State) (e : EntryIx) : (s.attemptGrant e).hazard = s.hazard := (s.attemptGrant_keeps e).2.2.2.2.2.1
@[simp] theorem State.attemptGrant_nomon (s : State) (e : EntryIx) : (s.attemptGrant e).nomon = s.nomon := (s.attemptGrant_keeps e).2.2.2.2.2.2.1
@[simp] theorem State.attemptGrant_replies (s : State) (e : EntryIx) : (s.attemptGrant e).replies = s.replies := (s.attemptGrant_keeps e).2.2.2.2.2.2.2.1
@[simp] theorem State.attemptGrant_notices (s : State) (e : EntryIx) : (s.attemptGrant e).notices = s.notices := (s.attemptGrant_keeps e).2.2.2.2.2.2.2.2.1
@[simp] theorem State.attemptGrant_overflow (s : State) (e : EntryIx) : (s.attemptGrant e).overflow = s.overflow := (s.attemptGrant_keeps e).2.2.2.2.2.2.2.2.2.1
@[simp] theorem State.attemptGrant_discardMark (s : State) (e : EntryIx) : (s.attemptGrant e).discardMark = s.discardMark := (s.attemptGrant_keeps e).2.2.2.2.2.2.2.2.2.2.1
@[simp] theorem State.attemptGrant_link (s : State) (e : EntryIx) : (s.attemptGrant e).link = s.link := (s.attemptGrant_keeps e).2.2.2.2.2.2.2.2.2.2.2.1
@[simp] theorem State.attemptGrant_sampleTimer (s : State) (e : EntryIx) : (s.attemptGrant e).sampleTimer = s.sampleTimer := (s.attemptGrant_keeps e).2.2.2.2.2.2.2.2.2.2.2.2.1
@[simp] theorem State.attemptGrant_sampleLength (s : State) (e : EntryIx) : (s.attemptGrant e).sampleLength = s.sampleLength := (s.attemptGrant_keeps e).2.2.2.2.2.2.2.2.2.2.2.2.2.1
@[simp] theorem State.attemptGrant_atExpiry (s : State) (e : EntryIx) : (s.attemptGrant e).atExpiry = s.atExpiry := (s.attemptGrant_keeps e).2.2.2.2.2.2.2.2.2.2.2.2.2.2.1
@[simp] theorem State.attemptGrant_unitCounter (s : State) (e : EntryIx) : (s.attemptGrant e).unitCounter = s.unitCounter := (s.attemptGrant_keeps e).2.2.2.2.2.2.2.2.2.2.2.2.2.2.2.1
@[simp] theorem State.attemptGrant_refclkRunning (s : State) (e : EntryIx) : (s.attemptGrant e).refclkRunning = s.refclkRunning := (s.attemptGrant_keeps e).2.2.2.2.2.2.2.2.2.2.2.2.2.2.2.2.1
@[simp] theorem State.attemptGrant_resetLow (s : State) (e : EntryIx) : (s.attemptGrant e).resetLow = s.resetLow := (s.attemptGrant_keeps e).2.2.2.2.2.2.2.2.2.2.2.2.2.2.2.2.2.1
@[simp] theorem State.attemptGrant_inReset (s : State) (e : EntryIx) : (s.attemptGrant e).inReset = s.inReset := (s.attemptGrant_keeps e).2.2.2.2.2.2.2.2.2.2.2.2.2.2.2.2.2.2.1
@[simp] theorem State.attemptGrant_out (s : State) (e : EntryIx) : (s.attemptGrant e).out = s.out := (s.attemptGrant_keeps e).2.2.2.2.2.2.2.2.2.2.2.2.2.2.2.2.2.2.2.1
@[simp] theorem State.attemptGrant_draws (s : State) (e : EntryIx) : (s.attemptGrant e).draws = s.draws := (s.attemptGrant_keeps e).2.2.2.2.2.2.2.2.2.2.2.2.2.2.2.2.2.2.2.2.1
@[simp] theorem State.attemptGrant_pending (s : State) (e : EntryIx) : (s.attemptGrant e).pending = s.pending := (s.attemptGrant_keeps e).2.2.2.2.2.2.2.2.2.2.2.2.2.2.2.2.2.2.2.2.2
@[simp] theorem State.attemptGrant_window (s : State) (e : EntryIx) (i : WindowIx) : (s.attemptGrant e).window i = s.window i := by
  simp only [State.window, State.attemptGrant_windows]

/-! What `State.drainExit` leaves unchanged. -/

theorem State.drainExit_keeps (s : State) (e : EntryIx) :
    (s.drainExit e).windows = s.windows ∧
    (s.drainExit e).mon = s.mon ∧
    (s.drainExit e).sampleCode = s.sampleCode ∧
    (s.drainExit e).mask = s.mask ∧
    (s.drainExit e).contexts = s.contexts ∧
    (s.drainExit e).flight = s.flight ∧
    (s.drainExit e).hazard = s.hazard ∧
    (s.drainExit e).nomon = s.nomon ∧
    (s.drainExit e).released = s.released ∧
    (s.drainExit e).replies = s.replies ∧
    (s.drainExit e).link = s.link ∧
    (s.drainExit e).sampleTimer = s.sampleTimer ∧
    (s.drainExit e).sampleLength = s.sampleLength ∧
    (s.drainExit e).atExpiry = s.atExpiry ∧
    (s.drainExit e).unitCounter = s.unitCounter ∧
    (s.drainExit e).refclkRunning = s.refclkRunning ∧
    (s.drainExit e).resetLow = s.resetLow ∧
    (s.drainExit e).inReset = s.inReset ∧
    (s.drainExit e).out = s.out ∧
    (s.drainExit e).draws = s.draws ∧
    (s.drainExit e).pending = s.pending := by
  unfold State.drainExit; split_ifs <;> simp
@[simp] theorem State.drainExit_windows (s : State) (e : EntryIx) : (s.drainExit e).windows = s.windows := (s.drainExit_keeps e).1
@[simp] theorem State.drainExit_mon (s : State) (e : EntryIx) : (s.drainExit e).mon = s.mon := (s.drainExit_keeps e).2.1
@[simp] theorem State.drainExit_sampleCode (s : State) (e : EntryIx) : (s.drainExit e).sampleCode = s.sampleCode := (s.drainExit_keeps e).2.2.1
@[simp] theorem State.drainExit_mask (s : State) (e : EntryIx) : (s.drainExit e).mask = s.mask := (s.drainExit_keeps e).2.2.2.1
@[simp] theorem State.drainExit_contexts (s : State) (e : EntryIx) : (s.drainExit e).contexts = s.contexts := (s.drainExit_keeps e).2.2.2.2.1
@[simp] theorem State.drainExit_flight (s : State) (e : EntryIx) : (s.drainExit e).flight = s.flight := (s.drainExit_keeps e).2.2.2.2.2.1
@[simp] theorem State.drainExit_hazard (s : State) (e : EntryIx) : (s.drainExit e).hazard = s.hazard := (s.drainExit_keeps e).2.2.2.2.2.2.1
@[simp] theorem State.drainExit_nomon (s : State) (e : EntryIx) : (s.drainExit e).nomon = s.nomon := (s.drainExit_keeps e).2.2.2.2.2.2.2.1
@[simp] theorem State.drainExit_released (s : State) (e : EntryIx) : (s.drainExit e).released = s.released := (s.drainExit_keeps e).2.2.2.2.2.2.2.2.1
@[simp] theorem State.drainExit_replies (s : State) (e : EntryIx) : (s.drainExit e).replies = s.replies := (s.drainExit_keeps e).2.2.2.2.2.2.2.2.2.1
@[simp] theorem State.drainExit_link (s : State) (e : EntryIx) : (s.drainExit e).link = s.link := (s.drainExit_keeps e).2.2.2.2.2.2.2.2.2.2.1
@[simp] theorem State.drainExit_sampleTimer (s : State) (e : EntryIx) : (s.drainExit e).sampleTimer = s.sampleTimer := (s.drainExit_keeps e).2.2.2.2.2.2.2.2.2.2.2.1
@[simp] theorem State.drainExit_sampleLength (s : State) (e : EntryIx) : (s.drainExit e).sampleLength = s.sampleLength := (s.drainExit_keeps e).2.2.2.2.2.2.2.2.2.2.2.2.1
@[simp] theorem State.drainExit_atExpiry (s : State) (e : EntryIx) : (s.drainExit e).atExpiry = s.atExpiry := (s.drainExit_keeps e).2.2.2.2.2.2.2.2.2.2.2.2.2.1
@[simp] theorem State.drainExit_unitCounter (s : State) (e : EntryIx) : (s.drainExit e).unitCounter = s.unitCounter := (s.drainExit_keeps e).2.2.2.2.2.2.2.2.2.2.2.2.2.2.1
@[simp] theorem State.drainExit_refclkRunning (s : State) (e : EntryIx) : (s.drainExit e).refclkRunning = s.refclkRunning := (s.drainExit_keeps e).2.2.2.2.2.2.2.2.2.2.2.2.2.2.2.1
@[simp] theorem State.drainExit_resetLow (s : State) (e : EntryIx) : (s.drainExit e).resetLow = s.resetLow := (s.drainExit_keeps e).2.2.2.2.2.2.2.2.2.2.2.2.2.2.2.2.1
@[simp] theorem State.drainExit_inReset (s : State) (e : EntryIx) : (s.drainExit e).inReset = s.inReset := (s.drainExit_keeps e).2.2.2.2.2.2.2.2.2.2.2.2.2.2.2.2.2.1
@[simp] theorem State.drainExit_out (s : State) (e : EntryIx) : (s.drainExit e).out = s.out := (s.drainExit_keeps e).2.2.2.2.2.2.2.2.2.2.2.2.2.2.2.2.2.2.1
@[simp] theorem State.drainExit_draws (s : State) (e : EntryIx) : (s.drainExit e).draws = s.draws := (s.drainExit_keeps e).2.2.2.2.2.2.2.2.2.2.2.2.2.2.2.2.2.2.2.1
@[simp] theorem State.drainExit_pending (s : State) (e : EntryIx) : (s.drainExit e).pending = s.pending := (s.drainExit_keeps e).2.2.2.2.2.2.2.2.2.2.2.2.2.2.2.2.2.2.2.2
@[simp] theorem State.drainExit_ctx (s : State) (e : EntryIx) (i : Master) : (s.drainExit e).ctx i = s.ctx i := by
  simp only [State.ctx, State.drainExit_contexts]
@[simp] theorem State.drainExit_window (s : State) (e : EntryIx) (i : WindowIx) : (s.drainExit e).window i = s.window i := by
  simp only [State.window, State.drainExit_windows]

/-! What `State.settle` leaves unchanged. -/

theorem State.settle_keeps (s : State) (e : EntryIx) :
    (s.settle e).windows = s.windows ∧
    (s.settle e).mon = s.mon ∧
    (s.settle e).sampleCode = s.sampleCode ∧
    (s.settle e).mask = s.mask ∧
    (s.settle e).flight = s.flight ∧
    (s.settle e).hazard = s.hazard ∧
    (s.settle e).nomon = s.nomon ∧
    (s.settle e).replies = s.replies ∧
    (s.settle e).link = s.link ∧
    (s.settle e).sampleTimer = s.sampleTimer ∧
    (s.settle e).sampleLength = s.sampleLength ∧
    (s.settle e).atExpiry = s.atExpiry ∧
    (s.settle e).unitCounter = s.unitCounter ∧
    (s.settle e).refclkRunning = s.refclkRunning ∧
    (s.settle e).resetLow = s.resetLow ∧
    (s.settle e).inReset = s.inReset ∧
    (s.settle e).out = s.out ∧
    (s.settle e).draws = s.draws ∧
    (s.settle e).pending = s.pending := by
  simp [State.settle]
@[simp] theorem State.settle_windows (s : State) (e : EntryIx) : (s.settle e).windows = s.windows := (s.settle_keeps e).1
@[simp] theorem State.settle_mon (s : State) (e : EntryIx) : (s.settle e).mon = s.mon := (s.settle_keeps e).2.1
@[simp] theorem State.settle_sampleCode (s : State) (e : EntryIx) : (s.settle e).sampleCode = s.sampleCode := (s.settle_keeps e).2.2.1
@[simp] theorem State.settle_mask (s : State) (e : EntryIx) : (s.settle e).mask = s.mask := (s.settle_keeps e).2.2.2.1
@[simp] theorem State.settle_flight (s : State) (e : EntryIx) : (s.settle e).flight = s.flight := (s.settle_keeps e).2.2.2.2.1
@[simp] theorem State.settle_hazard (s : State) (e : EntryIx) : (s.settle e).hazard = s.hazard := (s.settle_keeps e).2.2.2.2.2.1
@[simp] theorem State.settle_nomon (s : State) (e : EntryIx) : (s.settle e).nomon = s.nomon := (s.settle_keeps e).2.2.2.2.2.2.1
@[simp] theorem State.settle_replies (s : State) (e : EntryIx) : (s.settle e).replies = s.replies := (s.settle_keeps e).2.2.2.2.2.2.2.1
@[simp] theorem State.settle_link (s : State) (e : EntryIx) : (s.settle e).link = s.link := (s.settle_keeps e).2.2.2.2.2.2.2.2.1
@[simp] theorem State.settle_sampleTimer (s : State) (e : EntryIx) : (s.settle e).sampleTimer = s.sampleTimer := (s.settle_keeps e).2.2.2.2.2.2.2.2.2.1
@[simp] theorem State.settle_sampleLength (s : State) (e : EntryIx) : (s.settle e).sampleLength = s.sampleLength := (s.settle_keeps e).2.2.2.2.2.2.2.2.2.2.1
@[simp] theorem State.settle_atExpiry (s : State) (e : EntryIx) : (s.settle e).atExpiry = s.atExpiry := (s.settle_keeps e).2.2.2.2.2.2.2.2.2.2.2.1
@[simp] theorem State.settle_unitCounter (s : State) (e : EntryIx) : (s.settle e).unitCounter = s.unitCounter := (s.settle_keeps e).2.2.2.2.2.2.2.2.2.2.2.2.1
@[simp] theorem State.settle_refclkRunning (s : State) (e : EntryIx) : (s.settle e).refclkRunning = s.refclkRunning := (s.settle_keeps e).2.2.2.2.2.2.2.2.2.2.2.2.2.1
@[simp] theorem State.settle_resetLow (s : State) (e : EntryIx) : (s.settle e).resetLow = s.resetLow := (s.settle_keeps e).2.2.2.2.2.2.2.2.2.2.2.2.2.2.1
@[simp] theorem State.settle_inReset (s : State) (e : EntryIx) : (s.settle e).inReset = s.inReset := (s.settle_keeps e).2.2.2.2.2.2.2.2.2.2.2.2.2.2.2.1
@[simp] theorem State.settle_out (s : State) (e : EntryIx) : (s.settle e).out = s.out := (s.settle_keeps e).2.2.2.2.2.2.2.2.2.2.2.2.2.2.2.2.1
@[simp] theorem State.settle_draws (s : State) (e : EntryIx) : (s.settle e).draws = s.draws := (s.settle_keeps e).2.2.2.2.2.2.2.2.2.2.2.2.2.2.2.2.2.1
@[simp] theorem State.settle_pending (s : State) (e : EntryIx) : (s.settle e).pending = s.pending := (s.settle_keeps e).2.2.2.2.2.2.2.2.2.2.2.2.2.2.2.2.2.2
@[simp] theorem State.settle_window (s : State) (e : EntryIx) (i : WindowIx) : (s.settle e).window i = s.window i := by
  simp only [State.window, State.settle_windows]

/-! What `State.releaseEntry` leaves unchanged. -/

theorem State.releaseEntry_keeps (s : State) (e : EntryIx) :
    (s.releaseEntry e).windows = s.windows ∧
    (s.releaseEntry e).mon = s.mon ∧
    (s.releaseEntry e).sampleCode = s.sampleCode ∧
    (s.releaseEntry e).mask = s.mask ∧
    (s.releaseEntry e).nomon = s.nomon ∧
    (s.releaseEntry e).replies = s.replies ∧
    (s.releaseEntry e).link = s.link ∧
    (s.releaseEntry e).sampleTimer = s.sampleTimer ∧
    (s.releaseEntry e).sampleLength = s.sampleLength ∧
    (s.releaseEntry e).atExpiry = s.atExpiry ∧
    (s.releaseEntry e).unitCounter = s.unitCounter ∧
    (s.releaseEntry e).refclkRunning = s.refclkRunning ∧
    (s.releaseEntry e).resetLow = s.resetLow ∧
    (s.releaseEntry e).inReset = s.inReset ∧
    (s.releaseEntry e).out = s.out ∧
    (s.releaseEntry e).draws = s.draws ∧
    (s.releaseEntry e).pending = s.pending := by
  simp [State.releaseEntry]
@[simp] theorem State.releaseEntry_windows (s : State) (e : EntryIx) : (s.releaseEntry e).windows = s.windows := (s.releaseEntry_keeps e).1
@[simp] theorem State.releaseEntry_mon (s : State) (e : EntryIx) : (s.releaseEntry e).mon = s.mon := (s.releaseEntry_keeps e).2.1
@[simp] theorem State.releaseEntry_sampleCode (s : State) (e : EntryIx) : (s.releaseEntry e).sampleCode = s.sampleCode := (s.releaseEntry_keeps e).2.2.1
@[simp] theorem State.releaseEntry_mask (s : State) (e : EntryIx) : (s.releaseEntry e).mask = s.mask := (s.releaseEntry_keeps e).2.2.2.1
@[simp] theorem State.releaseEntry_nomon (s : State) (e : EntryIx) : (s.releaseEntry e).nomon = s.nomon := (s.releaseEntry_keeps e).2.2.2.2.1
@[simp] theorem State.releaseEntry_replies (s : State) (e : EntryIx) : (s.releaseEntry e).replies = s.replies := (s.releaseEntry_keeps e).2.2.2.2.2.1
@[simp] theorem State.releaseEntry_link (s : State) (e : EntryIx) : (s.releaseEntry e).link = s.link := (s.releaseEntry_keeps e).2.2.2.2.2.2.1
@[simp] theorem State.releaseEntry_sampleTimer (s : State) (e : EntryIx) : (s.releaseEntry e).sampleTimer = s.sampleTimer := (s.releaseEntry_keeps e).2.2.2.2.2.2.2.1
@[simp] theorem State.releaseEntry_sampleLength (s : State) (e : EntryIx) : (s.releaseEntry e).sampleLength = s.sampleLength := (s.releaseEntry_keeps e).2.2.2.2.2.2.2.2.1
@[simp] theorem State.releaseEntry_atExpiry (s : State) (e : EntryIx) : (s.releaseEntry e).atExpiry = s.atExpiry := (s.releaseEntry_keeps e).2.2.2.2.2.2.2.2.2.1
@[simp] theorem State.releaseEntry_unitCounter (s : State) (e : EntryIx) : (s.releaseEntry e).unitCounter = s.unitCounter := (s.releaseEntry_keeps e).2.2.2.2.2.2.2.2.2.2.1
@[simp] theorem State.releaseEntry_refclkRunning (s : State) (e : EntryIx) : (s.releaseEntry e).refclkRunning = s.refclkRunning := (s.releaseEntry_keeps e).2.2.2.2.2.2.2.2.2.2.2.1
@[simp] theorem State.releaseEntry_resetLow (s : State) (e : EntryIx) : (s.releaseEntry e).resetLow = s.resetLow := (s.releaseEntry_keeps e).2.2.2.2.2.2.2.2.2.2.2.2.1
@[simp] theorem State.releaseEntry_inReset (s : State) (e : EntryIx) : (s.releaseEntry e).inReset = s.inReset := (s.releaseEntry_keeps e).2.2.2.2.2.2.2.2.2.2.2.2.2.1
@[simp] theorem State.releaseEntry_out (s : State) (e : EntryIx) : (s.releaseEntry e).out = s.out := (s.releaseEntry_keeps e).2.2.2.2.2.2.2.2.2.2.2.2.2.2.1
@[simp] theorem State.releaseEntry_draws (s : State) (e : EntryIx) : (s.releaseEntry e).draws = s.draws := (s.releaseEntry_keeps e).2.2.2.2.2.2.2.2.2.2.2.2.2.2.2.1
@[simp] theorem State.releaseEntry_pending (s : State) (e : EntryIx) : (s.releaseEntry e).pending = s.pending := (s.releaseEntry_keeps e).2.2.2.2.2.2.2.2.2.2.2.2.2.2.2.2
@[simp] theorem State.releaseEntry_window (s : State) (e : EntryIx) (i : WindowIx) : (s.releaseEntry e).window i = s.window i := by
  simp only [State.window, State.releaseEntry_windows]

/-! What `State.contentionEvent` leaves unchanged. -/

theorem State.contentionEvent_keeps (s : State) (g : Granule) :
    (s.contentionEvent g).windows = s.windows ∧
    (s.contentionEvent g).mon = s.mon ∧
    (s.contentionEvent g).sampleCode = s.sampleCode ∧
    (s.contentionEvent g).mask = s.mask ∧
    (s.contentionEvent g).contexts = s.contexts ∧
    (s.contentionEvent g).flight = s.flight ∧
    (s.contentionEvent g).hazard = s.hazard ∧
    (s.contentionEvent g).nomon = s.nomon ∧
    (s.contentionEvent g).released = s.released ∧
    (s.contentionEvent g).replies = s.replies ∧
    (s.contentionEvent g).link = s.link ∧
    (s.contentionEvent g).sampleTimer = s.sampleTimer ∧
    (s.contentionEvent g).sampleLength = s.sampleLength ∧
    (s.contentionEvent g).atExpiry = s.atExpiry ∧
    (s.contentionEvent g).unitCounter = s.unitCounter ∧
    (s.contentionEvent g).refclkRunning = s.refclkRunning ∧
    (s.contentionEvent g).resetLow = s.resetLow ∧
    (s.contentionEvent g).inReset = s.inReset ∧
    (s.contentionEvent g).out = s.out ∧
    (s.contentionEvent g).draws = s.draws ∧
    (s.contentionEvent g).pending = s.pending := by
  unfold State.contentionEvent; split_ifs
  · simp
  · split
    · simp
    · split
      · simp
      · split <;> simp
@[simp] theorem State.contentionEvent_windows (s : State) (g : Granule) : (s.contentionEvent g).windows = s.windows := (s.contentionEvent_keeps g).1
@[simp] theorem State.contentionEvent_mon (s : State) (g : Granule) : (s.contentionEvent g).mon = s.mon := (s.contentionEvent_keeps g).2.1
@[simp] theorem State.contentionEvent_sampleCode (s : State) (g : Granule) : (s.contentionEvent g).sampleCode = s.sampleCode := (s.contentionEvent_keeps g).2.2.1
@[simp] theorem State.contentionEvent_mask (s : State) (g : Granule) : (s.contentionEvent g).mask = s.mask := (s.contentionEvent_keeps g).2.2.2.1
@[simp] theorem State.contentionEvent_contexts (s : State) (g : Granule) : (s.contentionEvent g).contexts = s.contexts := (s.contentionEvent_keeps g).2.2.2.2.1
@[simp] theorem State.contentionEvent_flight (s : State) (g : Granule) : (s.contentionEvent g).flight = s.flight := (s.contentionEvent_keeps g).2.2.2.2.2.1
@[simp] theorem State.contentionEvent_hazard (s : State) (g : Granule) : (s.contentionEvent g).hazard = s.hazard := (s.contentionEvent_keeps g).2.2.2.2.2.2.1
@[simp] theorem State.contentionEvent_nomon (s : State) (g : Granule) : (s.contentionEvent g).nomon = s.nomon := (s.contentionEvent_keeps g).2.2.2.2.2.2.2.1
@[simp] theorem State.contentionEvent_released (s : State) (g : Granule) : (s.contentionEvent g).released = s.released := (s.contentionEvent_keeps g).2.2.2.2.2.2.2.2.1
@[simp] theorem State.contentionEvent_replies (s : State) (g : Granule) : (s.contentionEvent g).replies = s.replies := (s.contentionEvent_keeps g).2.2.2.2.2.2.2.2.2.1
@[simp] theorem State.contentionEvent_link (s : State) (g : Granule) : (s.contentionEvent g).link = s.link := (s.contentionEvent_keeps g).2.2.2.2.2.2.2.2.2.2.1
@[simp] theorem State.contentionEvent_sampleTimer (s : State) (g : Granule) : (s.contentionEvent g).sampleTimer = s.sampleTimer := (s.contentionEvent_keeps g).2.2.2.2.2.2.2.2.2.2.2.1
@[simp] theorem State.contentionEvent_sampleLength (s : State) (g : Granule) : (s.contentionEvent g).sampleLength = s.sampleLength := (s.contentionEvent_keeps g).2.2.2.2.2.2.2.2.2.2.2.2.1
@[simp] theorem State.contentionEvent_atExpiry (s : State) (g : Granule) : (s.contentionEvent g).atExpiry = s.atExpiry := (s.contentionEvent_keeps g).2.2.2.2.2.2.2.2.2.2.2.2.2.1
@[simp] theorem State.contentionEvent_unitCounter (s : State) (g : Granule) : (s.contentionEvent g).unitCounter = s.unitCounter := (s.contentionEvent_keeps g).2.2.2.2.2.2.2.2.2.2.2.2.2.2.1
@[simp] theorem State.contentionEvent_refclkRunning (s : State) (g : Granule) : (s.contentionEvent g).refclkRunning = s.refclkRunning := (s.contentionEvent_keeps g).2.2.2.2.2.2.2.2.2.2.2.2.2.2.2.1
@[simp] theorem State.contentionEvent_resetLow (s : State) (g : Granule) : (s.contentionEvent g).resetLow = s.resetLow := (s.contentionEvent_keeps g).2.2.2.2.2.2.2.2.2.2.2.2.2.2.2.2.1
@[simp] theorem State.contentionEvent_inReset (s : State) (g : Granule) : (s.contentionEvent g).inReset = s.inReset := (s.contentionEvent_keeps g).2.2.2.2.2.2.2.2.2.2.2.2.2.2.2.2.2.1
@[simp] theorem State.contentionEvent_out (s : State) (g : Granule) : (s.contentionEvent g).out = s.out := (s.contentionEvent_keeps g).2.2.2.2.2.2.2.2.2.2.2.2.2.2.2.2.2.2.1
@[simp] theorem State.contentionEvent_draws (s : State) (g : Granule) : (s.contentionEvent g).draws = s.draws := (s.contentionEvent_keeps g).2.2.2.2.2.2.2.2.2.2.2.2.2.2.2.2.2.2.2.1
@[simp] theorem State.contentionEvent_pending (s : State) (g : Granule) : (s.contentionEvent g).pending = s.pending := (s.contentionEvent_keeps g).2.2.2.2.2.2.2.2.2.2.2.2.2.2.2.2.2.2.2.2
@[simp] theorem State.contentionEvent_ctx (s : State) (g : Granule) (i : Master) : (s.contentionEvent g).ctx i = s.ctx i := by
  simp only [State.ctx, State.contentionEvent_contexts]
@[simp] theorem State.contentionEvent_window (s : State) (g : Granule) (i : WindowIx) : (s.contentionEvent g).window i = s.window i := by
  simp only [State.window, State.contentionEvent_windows]

/-! What `State.move` leaves unchanged. -/

theorem State.move_keeps (s : State) (m : Master) (g : Granule) :
    (s.move m g).windows = s.windows ∧
    (s.move m g).mon = s.mon ∧
    (s.move m g).sampleCode = s.sampleCode ∧
    (s.move m g).mask = s.mask ∧
    (s.move m g).nomon = s.nomon ∧
    (s.move m g).replies = s.replies ∧
    (s.move m g).link = s.link ∧
    (s.move m g).sampleTimer = s.sampleTimer ∧
    (s.move m g).sampleLength = s.sampleLength ∧
    (s.move m g).atExpiry = s.atExpiry ∧
    (s.move m g).unitCounter = s.unitCounter ∧
    (s.move m g).refclkRunning = s.refclkRunning ∧
    (s.move m g).resetLow = s.resetLow ∧
    (s.move m g).inReset = s.inReset ∧
    (s.move m g).out = s.out ∧
    (s.move m g).draws = s.draws ∧
    (s.move m g).pending = s.pending := by
  unfold State.move; dsimp only; split
  · split_ifs <;> simp
  · simp
@[simp] theorem State.move_windows (s : State) (m : Master) (g : Granule) : (s.move m g).windows = s.windows := (s.move_keeps m g).1
@[simp] theorem State.move_mon (s : State) (m : Master) (g : Granule) : (s.move m g).mon = s.mon := (s.move_keeps m g).2.1
@[simp] theorem State.move_sampleCode (s : State) (m : Master) (g : Granule) : (s.move m g).sampleCode = s.sampleCode := (s.move_keeps m g).2.2.1
@[simp] theorem State.move_mask (s : State) (m : Master) (g : Granule) : (s.move m g).mask = s.mask := (s.move_keeps m g).2.2.2.1
@[simp] theorem State.move_nomon (s : State) (m : Master) (g : Granule) : (s.move m g).nomon = s.nomon := (s.move_keeps m g).2.2.2.2.1
@[simp] theorem State.move_replies (s : State) (m : Master) (g : Granule) : (s.move m g).replies = s.replies := (s.move_keeps m g).2.2.2.2.2.1
@[simp] theorem State.move_link (s : State) (m : Master) (g : Granule) : (s.move m g).link = s.link := (s.move_keeps m g).2.2.2.2.2.2.1
@[simp] theorem State.move_sampleTimer (s : State) (m : Master) (g : Granule) : (s.move m g).sampleTimer = s.sampleTimer := (s.move_keeps m g).2.2.2.2.2.2.2.1
@[simp] theorem State.move_sampleLength (s : State) (m : Master) (g : Granule) : (s.move m g).sampleLength = s.sampleLength := (s.move_keeps m g).2.2.2.2.2.2.2.2.1
@[simp] theorem State.move_atExpiry (s : State) (m : Master) (g : Granule) : (s.move m g).atExpiry = s.atExpiry := (s.move_keeps m g).2.2.2.2.2.2.2.2.2.1
@[simp] theorem State.move_unitCounter (s : State) (m : Master) (g : Granule) : (s.move m g).unitCounter = s.unitCounter := (s.move_keeps m g).2.2.2.2.2.2.2.2.2.2.1
@[simp] theorem State.move_refclkRunning (s : State) (m : Master) (g : Granule) : (s.move m g).refclkRunning = s.refclkRunning := (s.move_keeps m g).2.2.2.2.2.2.2.2.2.2.2.1
@[simp] theorem State.move_resetLow (s : State) (m : Master) (g : Granule) : (s.move m g).resetLow = s.resetLow := (s.move_keeps m g).2.2.2.2.2.2.2.2.2.2.2.2.1
@[simp] theorem State.move_inReset (s : State) (m : Master) (g : Granule) : (s.move m g).inReset = s.inReset := (s.move_keeps m g).2.2.2.2.2.2.2.2.2.2.2.2.2.1
@[simp] theorem State.move_out (s : State) (m : Master) (g : Granule) : (s.move m g).out = s.out := (s.move_keeps m g).2.2.2.2.2.2.2.2.2.2.2.2.2.2.1
@[simp] theorem State.move_draws (s : State) (m : Master) (g : Granule) : (s.move m g).draws = s.draws := (s.move_keeps m g).2.2.2.2.2.2.2.2.2.2.2.2.2.2.2.1
@[simp] theorem State.move_pending (s : State) (m : Master) (g : Granule) : (s.move m g).pending = s.pending := (s.move_keeps m g).2.2.2.2.2.2.2.2.2.2.2.2.2.2.2.2
@[simp] theorem State.move_window (s : State) (m : Master) (g : Granule) (i : WindowIx) : (s.move m g).window i = s.window i := by
  simp only [State.window, State.move_windows]

/-! What `State.joinQueue` leaves unchanged. -/

theorem State.joinQueue_keeps (s : State) (r : Request) (g : Granule) (e : EntryIx) :
    (s.joinQueue r g e).windows = s.windows ∧
    (s.joinQueue r g e).mon = s.mon ∧
    (s.joinQueue r g e).sampleCode = s.sampleCode ∧
    (s.joinQueue r g e).mask = s.mask ∧
    (s.joinQueue r g e).flight = s.flight ∧
    (s.joinQueue r g e).hazard = s.hazard ∧
    (s.joinQueue r g e).nomon = s.nomon ∧
    (s.joinQueue r g e).replies = s.replies ∧
    (s.joinQueue r g e).link = s.link ∧
    (s.joinQueue r g e).sampleTimer = s.sampleTimer ∧
    (s.joinQueue r g e).sampleLength = s.sampleLength ∧
    (s.joinQueue r g e).atExpiry = s.atExpiry ∧
    (s.joinQueue r g e).unitCounter = s.unitCounter ∧
    (s.joinQueue r g e).refclkRunning = s.refclkRunning ∧
    (s.joinQueue r g e).resetLow = s.resetLow ∧
    (s.joinQueue r g e).inReset = s.inReset ∧
    (s.joinQueue r g e).out = s.out ∧
    (s.joinQueue r g e).draws = s.draws ∧
    (s.joinQueue r g e).pending = s.pending := by
  simp [State.joinQueue]
@[simp] theorem State.joinQueue_windows (s : State) (r : Request) (g : Granule) (e : EntryIx) : (s.joinQueue r g e).windows = s.windows := (s.joinQueue_keeps r g e).1
@[simp] theorem State.joinQueue_mon (s : State) (r : Request) (g : Granule) (e : EntryIx) : (s.joinQueue r g e).mon = s.mon := (s.joinQueue_keeps r g e).2.1
@[simp] theorem State.joinQueue_sampleCode (s : State) (r : Request) (g : Granule) (e : EntryIx) : (s.joinQueue r g e).sampleCode = s.sampleCode := (s.joinQueue_keeps r g e).2.2.1
@[simp] theorem State.joinQueue_mask (s : State) (r : Request) (g : Granule) (e : EntryIx) : (s.joinQueue r g e).mask = s.mask := (s.joinQueue_keeps r g e).2.2.2.1
@[simp] theorem State.joinQueue_flight (s : State) (r : Request) (g : Granule) (e : EntryIx) : (s.joinQueue r g e).flight = s.flight := (s.joinQueue_keeps r g e).2.2.2.2.1
@[simp] theorem State.joinQueue_hazard (s : State) (r : Request) (g : Granule) (e : EntryIx) : (s.joinQueue r g e).hazard = s.hazard := (s.joinQueue_keeps r g e).2.2.2.2.2.1
@[simp] theorem State.joinQueue_nomon (s : State) (r : Request) (g : Granule) (e : EntryIx) : (s.joinQueue r g e).nomon = s.nomon := (s.joinQueue_keeps r g e).2.2.2.2.2.2.1
@[simp] theorem State.joinQueue_replies (s : State) (r : Request) (g : Granule) (e : EntryIx) : (s.joinQueue r g e).replies = s.replies := (s.joinQueue_keeps r g e).2.2.2.2.2.2.2.1
@[simp] theorem State.joinQueue_link (s : State) (r : Request) (g : Granule) (e : EntryIx) : (s.joinQueue r g e).link = s.link := (s.joinQueue_keeps r g e).2.2.2.2.2.2.2.2.1
@[simp] theorem State.joinQueue_sampleTimer (s : State) (r : Request) (g : Granule) (e : EntryIx) : (s.joinQueue r g e).sampleTimer = s.sampleTimer := (s.joinQueue_keeps r g e).2.2.2.2.2.2.2.2.2.1
@[simp] theorem State.joinQueue_sampleLength (s : State) (r : Request) (g : Granule) (e : EntryIx) : (s.joinQueue r g e).sampleLength = s.sampleLength := (s.joinQueue_keeps r g e).2.2.2.2.2.2.2.2.2.2.1
@[simp] theorem State.joinQueue_atExpiry (s : State) (r : Request) (g : Granule) (e : EntryIx) : (s.joinQueue r g e).atExpiry = s.atExpiry := (s.joinQueue_keeps r g e).2.2.2.2.2.2.2.2.2.2.2.1
@[simp] theorem State.joinQueue_unitCounter (s : State) (r : Request) (g : Granule) (e : EntryIx) : (s.joinQueue r g e).unitCounter = s.unitCounter := (s.joinQueue_keeps r g e).2.2.2.2.2.2.2.2.2.2.2.2.1
@[simp] theorem State.joinQueue_refclkRunning (s : State) (r : Request) (g : Granule) (e : EntryIx) : (s.joinQueue r g e).refclkRunning = s.refclkRunning := (s.joinQueue_keeps r g e).2.2.2.2.2.2.2.2.2.2.2.2.2.1
@[simp] theorem State.joinQueue_resetLow (s : State) (r : Request) (g : Granule) (e : EntryIx) : (s.joinQueue r g e).resetLow = s.resetLow := (s.joinQueue_keeps r g e).2.2.2.2.2.2.2.2.2.2.2.2.2.2.1
@[simp] theorem State.joinQueue_inReset (s : State) (r : Request) (g : Granule) (e : EntryIx) : (s.joinQueue r g e).inReset = s.inReset := (s.joinQueue_keeps r g e).2.2.2.2.2.2.2.2.2.2.2.2.2.2.2.1
@[simp] theorem State.joinQueue_out (s : State) (r : Request) (g : Granule) (e : EntryIx) : (s.joinQueue r g e).out = s.out := (s.joinQueue_keeps r g e).2.2.2.2.2.2.2.2.2.2.2.2.2.2.2.2.1
@[simp] theorem State.joinQueue_draws (s : State) (r : Request) (g : Granule) (e : EntryIx) : (s.joinQueue r g e).draws = s.draws := (s.joinQueue_keeps r g e).2.2.2.2.2.2.2.2.2.2.2.2.2.2.2.2.2.1
@[simp] theorem State.joinQueue_pending (s : State) (r : Request) (g : Granule) (e : EntryIx) : (s.joinQueue r g e).pending = s.pending := (s.joinQueue_keeps r g e).2.2.2.2.2.2.2.2.2.2.2.2.2.2.2.2.2.2
@[simp] theorem State.joinQueue_window (s : State) (r : Request) (g : Granule) (e : EntryIx) (i : WindowIx) : (s.joinQueue r g e).window i = s.window i := by
  simp only [State.window, State.joinQueue_windows]

/-! What `State.releaseHeld` leaves unchanged. -/

theorem State.releaseHeld_keeps (s : State) (m : Master) :
    (s.releaseHeld m).windows = s.windows ∧
    (s.releaseHeld m).mon = s.mon ∧
    (s.releaseHeld m).sampleCode = s.sampleCode ∧
    (s.releaseHeld m).mask = s.mask ∧
    (s.releaseHeld m).nomon = s.nomon ∧
    (s.releaseHeld m).replies = s.replies ∧
    (s.releaseHeld m).link = s.link ∧
    (s.releaseHeld m).sampleTimer = s.sampleTimer ∧
    (s.releaseHeld m).sampleLength = s.sampleLength ∧
    (s.releaseHeld m).atExpiry = s.atExpiry ∧
    (s.releaseHeld m).unitCounter = s.unitCounter ∧
    (s.releaseHeld m).refclkRunning = s.refclkRunning ∧
    (s.releaseHeld m).resetLow = s.resetLow ∧
    (s.releaseHeld m).inReset = s.inReset ∧
    (s.releaseHeld m).out = s.out ∧
    (s.releaseHeld m).draws = s.draws ∧
    (s.releaseHeld m).pending = s.pending := by
  unfold State.releaseHeld; split
  · split_ifs <;> simp
  · simp
@[simp] theorem State.releaseHeld_windows (s : State) (m : Master) : (s.releaseHeld m).windows = s.windows := (s.releaseHeld_keeps m).1
@[simp] theorem State.releaseHeld_mon (s : State) (m : Master) : (s.releaseHeld m).mon = s.mon := (s.releaseHeld_keeps m).2.1
@[simp] theorem State.releaseHeld_sampleCode (s : State) (m : Master) : (s.releaseHeld m).sampleCode = s.sampleCode := (s.releaseHeld_keeps m).2.2.1
@[simp] theorem State.releaseHeld_mask (s : State) (m : Master) : (s.releaseHeld m).mask = s.mask := (s.releaseHeld_keeps m).2.2.2.1
@[simp] theorem State.releaseHeld_nomon (s : State) (m : Master) : (s.releaseHeld m).nomon = s.nomon := (s.releaseHeld_keeps m).2.2.2.2.1
@[simp] theorem State.releaseHeld_replies (s : State) (m : Master) : (s.releaseHeld m).replies = s.replies := (s.releaseHeld_keeps m).2.2.2.2.2.1
@[simp] theorem State.releaseHeld_link (s : State) (m : Master) : (s.releaseHeld m).link = s.link := (s.releaseHeld_keeps m).2.2.2.2.2.2.1
@[simp] theorem State.releaseHeld_sampleTimer (s : State) (m : Master) : (s.releaseHeld m).sampleTimer = s.sampleTimer := (s.releaseHeld_keeps m).2.2.2.2.2.2.2.1
@[simp] theorem State.releaseHeld_sampleLength (s : State) (m : Master) : (s.releaseHeld m).sampleLength = s.sampleLength := (s.releaseHeld_keeps m).2.2.2.2.2.2.2.2.1
@[simp] theorem State.releaseHeld_atExpiry (s : State) (m : Master) : (s.releaseHeld m).atExpiry = s.atExpiry := (s.releaseHeld_keeps m).2.2.2.2.2.2.2.2.2.1
@[simp] theorem State.releaseHeld_unitCounter (s : State) (m : Master) : (s.releaseHeld m).unitCounter = s.unitCounter := (s.releaseHeld_keeps m).2.2.2.2.2.2.2.2.2.2.1
@[simp] theorem State.releaseHeld_refclkRunning (s : State) (m : Master) : (s.releaseHeld m).refclkRunning = s.refclkRunning := (s.releaseHeld_keeps m).2.2.2.2.2.2.2.2.2.2.2.1
@[simp] theorem State.releaseHeld_resetLow (s : State) (m : Master) : (s.releaseHeld m).resetLow = s.resetLow := (s.releaseHeld_keeps m).2.2.2.2.2.2.2.2.2.2.2.2.1
@[simp] theorem State.releaseHeld_inReset (s : State) (m : Master) : (s.releaseHeld m).inReset = s.inReset := (s.releaseHeld_keeps m).2.2.2.2.2.2.2.2.2.2.2.2.2.1
@[simp] theorem State.releaseHeld_out (s : State) (m : Master) : (s.releaseHeld m).out = s.out := (s.releaseHeld_keeps m).2.2.2.2.2.2.2.2.2.2.2.2.2.2.1
@[simp] theorem State.releaseHeld_draws (s : State) (m : Master) : (s.releaseHeld m).draws = s.draws := (s.releaseHeld_keeps m).2.2.2.2.2.2.2.2.2.2.2.2.2.2.2.1
@[simp] theorem State.releaseHeld_pending (s : State) (m : Master) : (s.releaseHeld m).pending = s.pending := (s.releaseHeld_keeps m).2.2.2.2.2.2.2.2.2.2.2.2.2.2.2.2
@[simp] theorem State.releaseHeld_window (s : State) (m : Master) (i : WindowIx) : (s.releaseHeld m).window i = s.window i := by
  simp only [State.window, State.releaseHeld_windows]

/-! What `State.passWrite` leaves unchanged. -/

theorem State.passWrite_keeps (s : State) (r : Request) (g : Granule) :
    (s.passWrite r g).windows = s.windows ∧
    (s.passWrite r g).mon = s.mon ∧
    (s.passWrite r g).sampleCode = s.sampleCode ∧
    (s.passWrite r g).mask = s.mask ∧
    (s.passWrite r g).nomon = s.nomon ∧
    (s.passWrite r g).replies = s.replies ∧
    (s.passWrite r g).link = s.link ∧
    (s.passWrite r g).sampleTimer = s.sampleTimer ∧
    (s.passWrite r g).sampleLength = s.sampleLength ∧
    (s.passWrite r g).atExpiry = s.atExpiry ∧
    (s.passWrite r g).unitCounter = s.unitCounter ∧
    (s.passWrite r g).refclkRunning = s.refclkRunning ∧
    (s.passWrite r g).resetLow = s.resetLow ∧
    (s.passWrite r g).inReset = s.inReset ∧
    (s.passWrite r g).out = s.out ∧
    (s.passWrite r g).draws = s.draws ∧
    (s.passWrite r g).pending = s.pending := by
  unfold State.passWrite; dsimp only; split <;> simp
@[simp] theorem State.passWrite_windows (s : State) (r : Request) (g : Granule) : (s.passWrite r g).windows = s.windows := (s.passWrite_keeps r g).1
@[simp] theorem State.passWrite_mon (s : State) (r : Request) (g : Granule) : (s.passWrite r g).mon = s.mon := (s.passWrite_keeps r g).2.1
@[simp] theorem State.passWrite_sampleCode (s : State) (r : Request) (g : Granule) : (s.passWrite r g).sampleCode = s.sampleCode := (s.passWrite_keeps r g).2.2.1
@[simp] theorem State.passWrite_mask (s : State) (r : Request) (g : Granule) : (s.passWrite r g).mask = s.mask := (s.passWrite_keeps r g).2.2.2.1
@[simp] theorem State.passWrite_nomon (s : State) (r : Request) (g : Granule) : (s.passWrite r g).nomon = s.nomon := (s.passWrite_keeps r g).2.2.2.2.1
@[simp] theorem State.passWrite_replies (s : State) (r : Request) (g : Granule) : (s.passWrite r g).replies = s.replies := (s.passWrite_keeps r g).2.2.2.2.2.1
@[simp] theorem State.passWrite_link (s : State) (r : Request) (g : Granule) : (s.passWrite r g).link = s.link := (s.passWrite_keeps r g).2.2.2.2.2.2.1
@[simp] theorem State.passWrite_sampleTimer (s : State) (r : Request) (g : Granule) : (s.passWrite r g).sampleTimer = s.sampleTimer := (s.passWrite_keeps r g).2.2.2.2.2.2.2.1
@[simp] theorem State.passWrite_sampleLength (s : State) (r : Request) (g : Granule) : (s.passWrite r g).sampleLength = s.sampleLength := (s.passWrite_keeps r g).2.2.2.2.2.2.2.2.1
@[simp] theorem State.passWrite_atExpiry (s : State) (r : Request) (g : Granule) : (s.passWrite r g).atExpiry = s.atExpiry := (s.passWrite_keeps r g).2.2.2.2.2.2.2.2.2.1
@[simp] theorem State.passWrite_unitCounter (s : State) (r : Request) (g : Granule) : (s.passWrite r g).unitCounter = s.unitCounter := (s.passWrite_keeps r g).2.2.2.2.2.2.2.2.2.2.1
@[simp] theorem State.passWrite_refclkRunning (s : State) (r : Request) (g : Granule) : (s.passWrite r g).refclkRunning = s.refclkRunning := (s.passWrite_keeps r g).2.2.2.2.2.2.2.2.2.2.2.1
@[simp] theorem State.passWrite_resetLow (s : State) (r : Request) (g : Granule) : (s.passWrite r g).resetLow = s.resetLow := (s.passWrite_keeps r g).2.2.2.2.2.2.2.2.2.2.2.2.1
@[simp] theorem State.passWrite_inReset (s : State) (r : Request) (g : Granule) : (s.passWrite r g).inReset = s.inReset := (s.passWrite_keeps r g).2.2.2.2.2.2.2.2.2.2.2.2.2.1
@[simp] theorem State.passWrite_out (s : State) (r : Request) (g : Granule) : (s.passWrite r g).out = s.out := (s.passWrite_keeps r g).2.2.2.2.2.2.2.2.2.2.2.2.2.2.1
@[simp] theorem State.passWrite_draws (s : State) (r : Request) (g : Granule) : (s.passWrite r g).draws = s.draws := (s.passWrite_keeps r g).2.2.2.2.2.2.2.2.2.2.2.2.2.2.2.1
@[simp] theorem State.passWrite_pending (s : State) (r : Request) (g : Granule) : (s.passWrite r g).pending = s.pending := (s.passWrite_keeps r g).2.2.2.2.2.2.2.2.2.2.2.2.2.2.2.2
@[simp] theorem State.passWrite_window (s : State) (r : Request) (g : Granule) (i : WindowIx) : (s.passWrite r g).window i = s.window i := by
  simp only [State.window, State.passWrite_windows]

/-! What `State.failWrite` leaves unchanged. -/

theorem State.failWrite_keeps (s : State) (r : Request) (g : Granule) :
    (s.failWrite r g).windows = s.windows ∧
    (s.failWrite r g).mon = s.mon ∧
    (s.failWrite r g).sampleCode = s.sampleCode ∧
    (s.failWrite r g).mask = s.mask ∧
    (s.failWrite r g).nomon = s.nomon ∧
    (s.failWrite r g).link = s.link ∧
    (s.failWrite r g).sampleTimer = s.sampleTimer ∧
    (s.failWrite r g).sampleLength = s.sampleLength ∧
    (s.failWrite r g).atExpiry = s.atExpiry ∧
    (s.failWrite r g).unitCounter = s.unitCounter ∧
    (s.failWrite r g).refclkRunning = s.refclkRunning ∧
    (s.failWrite r g).resetLow = s.resetLow ∧
    (s.failWrite r g).inReset = s.inReset ∧
    (s.failWrite r g).out = s.out ∧
    (s.failWrite r g).draws = s.draws ∧
    (s.failWrite r g).pending = s.pending := by
  simp [State.failWrite]
@[simp] theorem State.failWrite_windows (s : State) (r : Request) (g : Granule) : (s.failWrite r g).windows = s.windows := (s.failWrite_keeps r g).1
@[simp] theorem State.failWrite_mon (s : State) (r : Request) (g : Granule) : (s.failWrite r g).mon = s.mon := (s.failWrite_keeps r g).2.1
@[simp] theorem State.failWrite_sampleCode (s : State) (r : Request) (g : Granule) : (s.failWrite r g).sampleCode = s.sampleCode := (s.failWrite_keeps r g).2.2.1
@[simp] theorem State.failWrite_mask (s : State) (r : Request) (g : Granule) : (s.failWrite r g).mask = s.mask := (s.failWrite_keeps r g).2.2.2.1
@[simp] theorem State.failWrite_nomon (s : State) (r : Request) (g : Granule) : (s.failWrite r g).nomon = s.nomon := (s.failWrite_keeps r g).2.2.2.2.1
@[simp] theorem State.failWrite_link (s : State) (r : Request) (g : Granule) : (s.failWrite r g).link = s.link := (s.failWrite_keeps r g).2.2.2.2.2.1
@[simp] theorem State.failWrite_sampleTimer (s : State) (r : Request) (g : Granule) : (s.failWrite r g).sampleTimer = s.sampleTimer := (s.failWrite_keeps r g).2.2.2.2.2.2.1
@[simp] theorem State.failWrite_sampleLength (s : State) (r : Request) (g : Granule) : (s.failWrite r g).sampleLength = s.sampleLength := (s.failWrite_keeps r g).2.2.2.2.2.2.2.1
@[simp] theorem State.failWrite_atExpiry (s : State) (r : Request) (g : Granule) : (s.failWrite r g).atExpiry = s.atExpiry := (s.failWrite_keeps r g).2.2.2.2.2.2.2.2.1
@[simp] theorem State.failWrite_unitCounter (s : State) (r : Request) (g : Granule) : (s.failWrite r g).unitCounter = s.unitCounter := (s.failWrite_keeps r g).2.2.2.2.2.2.2.2.2.1
@[simp] theorem State.failWrite_refclkRunning (s : State) (r : Request) (g : Granule) : (s.failWrite r g).refclkRunning = s.refclkRunning := (s.failWrite_keeps r g).2.2.2.2.2.2.2.2.2.2.1
@[simp] theorem State.failWrite_resetLow (s : State) (r : Request) (g : Granule) : (s.failWrite r g).resetLow = s.resetLow := (s.failWrite_keeps r g).2.2.2.2.2.2.2.2.2.2.2.1
@[simp] theorem State.failWrite_inReset (s : State) (r : Request) (g : Granule) : (s.failWrite r g).inReset = s.inReset := (s.failWrite_keeps r g).2.2.2.2.2.2.2.2.2.2.2.2.1
@[simp] theorem State.failWrite_out (s : State) (r : Request) (g : Granule) : (s.failWrite r g).out = s.out := (s.failWrite_keeps r g).2.2.2.2.2.2.2.2.2.2.2.2.2.1
@[simp] theorem State.failWrite_draws (s : State) (r : Request) (g : Granule) : (s.failWrite r g).draws = s.draws := (s.failWrite_keeps r g).2.2.2.2.2.2.2.2.2.2.2.2.2.2.1
@[simp] theorem State.failWrite_pending (s : State) (r : Request) (g : Granule) : (s.failWrite r g).pending = s.pending := (s.failWrite_keeps r g).2.2.2.2.2.2.2.2.2.2.2.2.2.2.2
@[simp] theorem State.failWrite_window (s : State) (r : Request) (g : Granule) (i : WindowIx) : (s.failWrite r g).window i = s.window i := by
  simp only [State.window, State.failWrite_windows]

/-! What `State.cancel` leaves unchanged. -/

theorem State.cancel_keeps (s : State) (m : Master) (p : Parked) :
    (s.cancel m p).windows = s.windows ∧
    (s.cancel m p).mon = s.mon ∧
    (s.cancel m p).sampleCode = s.sampleCode ∧
    (s.cancel m p).mask = s.mask ∧
    (s.cancel m p).flight = s.flight ∧
    (s.cancel m p).nomon = s.nomon ∧
    (s.cancel m p).released = s.released ∧
    (s.cancel m p).link = s.link ∧
    (s.cancel m p).sampleTimer = s.sampleTimer ∧
    (s.cancel m p).sampleLength = s.sampleLength ∧
    (s.cancel m p).atExpiry = s.atExpiry ∧
    (s.cancel m p).unitCounter = s.unitCounter ∧
    (s.cancel m p).refclkRunning = s.refclkRunning ∧
    (s.cancel m p).resetLow = s.resetLow ∧
    (s.cancel m p).inReset = s.inReset ∧
    (s.cancel m p).out = s.out ∧
    (s.cancel m p).draws = s.draws ∧
    (s.cancel m p).pending = s.pending := by
  unfold State.cancel; dsimp only; split <;> simp
@[simp] theorem State.cancel_windows (s : State) (m : Master) (p : Parked) : (s.cancel m p).windows = s.windows := (s.cancel_keeps m p).1
@[simp] theorem State.cancel_mon (s : State) (m : Master) (p : Parked) : (s.cancel m p).mon = s.mon := (s.cancel_keeps m p).2.1
@[simp] theorem State.cancel_sampleCode (s : State) (m : Master) (p : Parked) : (s.cancel m p).sampleCode = s.sampleCode := (s.cancel_keeps m p).2.2.1
@[simp] theorem State.cancel_mask (s : State) (m : Master) (p : Parked) : (s.cancel m p).mask = s.mask := (s.cancel_keeps m p).2.2.2.1
@[simp] theorem State.cancel_flight (s : State) (m : Master) (p : Parked) : (s.cancel m p).flight = s.flight := (s.cancel_keeps m p).2.2.2.2.1
@[simp] theorem State.cancel_nomon (s : State) (m : Master) (p : Parked) : (s.cancel m p).nomon = s.nomon := (s.cancel_keeps m p).2.2.2.2.2.1
@[simp] theorem State.cancel_released (s : State) (m : Master) (p : Parked) : (s.cancel m p).released = s.released := (s.cancel_keeps m p).2.2.2.2.2.2.1
@[simp] theorem State.cancel_link (s : State) (m : Master) (p : Parked) : (s.cancel m p).link = s.link := (s.cancel_keeps m p).2.2.2.2.2.2.2.1
@[simp] theorem State.cancel_sampleTimer (s : State) (m : Master) (p : Parked) : (s.cancel m p).sampleTimer = s.sampleTimer := (s.cancel_keeps m p).2.2.2.2.2.2.2.2.1
@[simp] theorem State.cancel_sampleLength (s : State) (m : Master) (p : Parked) : (s.cancel m p).sampleLength = s.sampleLength := (s.cancel_keeps m p).2.2.2.2.2.2.2.2.2.1
@[simp] theorem State.cancel_atExpiry (s : State) (m : Master) (p : Parked) : (s.cancel m p).atExpiry = s.atExpiry := (s.cancel_keeps m p).2.2.2.2.2.2.2.2.2.2.1
@[simp] theorem State.cancel_unitCounter (s : State) (m : Master) (p : Parked) : (s.cancel m p).unitCounter = s.unitCounter := (s.cancel_keeps m p).2.2.2.2.2.2.2.2.2.2.2.1
@[simp] theorem State.cancel_refclkRunning (s : State) (m : Master) (p : Parked) : (s.cancel m p).refclkRunning = s.refclkRunning := (s.cancel_keeps m p).2.2.2.2.2.2.2.2.2.2.2.2.1
@[simp] theorem State.cancel_resetLow (s : State) (m : Master) (p : Parked) : (s.cancel m p).resetLow = s.resetLow := (s.cancel_keeps m p).2.2.2.2.2.2.2.2.2.2.2.2.2.1
@[simp] theorem State.cancel_inReset (s : State) (m : Master) (p : Parked) : (s.cancel m p).inReset = s.inReset := (s.cancel_keeps m p).2.2.2.2.2.2.2.2.2.2.2.2.2.2.1
@[simp] theorem State.cancel_out (s : State) (m : Master) (p : Parked) : (s.cancel m p).out = s.out := (s.cancel_keeps m p).2.2.2.2.2.2.2.2.2.2.2.2.2.2.2.1
@[simp] theorem State.cancel_draws (s : State) (m : Master) (p : Parked) : (s.cancel m p).draws = s.draws := (s.cancel_keeps m p).2.2.2.2.2.2.2.2.2.2.2.2.2.2.2.2.1
@[simp] theorem State.cancel_pending (s : State) (m : Master) (p : Parked) : (s.cancel m p).pending = s.pending := (s.cancel_keeps m p).2.2.2.2.2.2.2.2.2.2.2.2.2.2.2.2.2
@[simp] theorem State.cancel_window (s : State) (m : Master) (p : Parked) (i : WindowIx) : (s.cancel m p).window i = s.window i := by
  simp only [State.window, State.cancel_windows]

/-! What `State.grantsIn` leaves unchanged. -/

theorem State.grantsIn_keeps (s : State) (r : GranuleRange) :
    (s.grantsIn r).windows = s.windows ∧
    (s.grantsIn r).mon = s.mon ∧
    (s.grantsIn r).sampleCode = s.sampleCode ∧
    (s.grantsIn r).mask = s.mask ∧
    (s.grantsIn r).flight = s.flight ∧
    (s.grantsIn r).hazard = s.hazard ∧
    (s.grantsIn r).nomon = s.nomon ∧
    (s.grantsIn r).replies = s.replies ∧
    (s.grantsIn r).notices = s.notices ∧
    (s.grantsIn r).overflow = s.overflow ∧
    (s.grantsIn r).discardMark = s.discardMark ∧
    (s.grantsIn r).link = s.link ∧
    (s.grantsIn r).sampleTimer = s.sampleTimer ∧
    (s.grantsIn r).sampleLength = s.sampleLength ∧
    (s.grantsIn r).atExpiry = s.atExpiry ∧
    (s.grantsIn r).unitCounter = s.unitCounter ∧
    (s.grantsIn r).refclkRunning = s.refclkRunning ∧
    (s.grantsIn r).resetLow = s.resetLow ∧
    (s.grantsIn r).inReset = s.inReset ∧
    (s.grantsIn r).out = s.out ∧
    (s.grantsIn r).draws = s.draws ∧
    (s.grantsIn r).pending = s.pending := by
  unfold State.grantsIn
  exact ⟨foldl_keeps State.windows (fun a e => by split_ifs <;> simp) _ _,
    foldl_keeps State.mon (fun a e => by split_ifs <;> simp) _ _,
    foldl_keeps State.sampleCode (fun a e => by split_ifs <;> simp) _ _,
    foldl_keeps State.mask (fun a e => by split_ifs <;> simp) _ _,
    foldl_keeps State.flight (fun a e => by split_ifs <;> simp) _ _,
    foldl_keeps State.hazard (fun a e => by split_ifs <;> simp) _ _,
    foldl_keeps State.nomon (fun a e => by split_ifs <;> simp) _ _,
    foldl_keeps State.replies (fun a e => by split_ifs <;> simp) _ _,
    foldl_keeps State.notices (fun a e => by split_ifs <;> simp) _ _,
    foldl_keeps State.overflow (fun a e => by split_ifs <;> simp) _ _,
    foldl_keeps State.discardMark (fun a e => by split_ifs <;> simp) _ _,
    foldl_keeps State.link (fun a e => by split_ifs <;> simp) _ _,
    foldl_keeps State.sampleTimer (fun a e => by split_ifs <;> simp) _ _,
    foldl_keeps State.sampleLength (fun a e => by split_ifs <;> simp) _ _,
    foldl_keeps State.atExpiry (fun a e => by split_ifs <;> simp) _ _,
    foldl_keeps State.unitCounter (fun a e => by split_ifs <;> simp) _ _,
    foldl_keeps State.refclkRunning (fun a e => by split_ifs <;> simp) _ _,
    foldl_keeps State.resetLow (fun a e => by split_ifs <;> simp) _ _,
    foldl_keeps State.inReset (fun a e => by split_ifs <;> simp) _ _,
    foldl_keeps State.out (fun a e => by split_ifs <;> simp) _ _,
    foldl_keeps State.draws (fun a e => by split_ifs <;> simp) _ _,
    foldl_keeps State.pending (fun a e => by split_ifs <;> simp) _ _⟩
@[simp] theorem State.grantsIn_windows (s : State) (r : GranuleRange) : (s.grantsIn r).windows = s.windows := (s.grantsIn_keeps r).1
@[simp] theorem State.grantsIn_mon (s : State) (r : GranuleRange) : (s.grantsIn r).mon = s.mon := (s.grantsIn_keeps r).2.1
@[simp] theorem State.grantsIn_sampleCode (s : State) (r : GranuleRange) : (s.grantsIn r).sampleCode = s.sampleCode := (s.grantsIn_keeps r).2.2.1
@[simp] theorem State.grantsIn_mask (s : State) (r : GranuleRange) : (s.grantsIn r).mask = s.mask := (s.grantsIn_keeps r).2.2.2.1
@[simp] theorem State.grantsIn_flight (s : State) (r : GranuleRange) : (s.grantsIn r).flight = s.flight := (s.grantsIn_keeps r).2.2.2.2.1
@[simp] theorem State.grantsIn_hazard (s : State) (r : GranuleRange) : (s.grantsIn r).hazard = s.hazard := (s.grantsIn_keeps r).2.2.2.2.2.1
@[simp] theorem State.grantsIn_nomon (s : State) (r : GranuleRange) : (s.grantsIn r).nomon = s.nomon := (s.grantsIn_keeps r).2.2.2.2.2.2.1
@[simp] theorem State.grantsIn_replies (s : State) (r : GranuleRange) : (s.grantsIn r).replies = s.replies := (s.grantsIn_keeps r).2.2.2.2.2.2.2.1
@[simp] theorem State.grantsIn_notices (s : State) (r : GranuleRange) : (s.grantsIn r).notices = s.notices := (s.grantsIn_keeps r).2.2.2.2.2.2.2.2.1
@[simp] theorem State.grantsIn_overflow (s : State) (r : GranuleRange) : (s.grantsIn r).overflow = s.overflow := (s.grantsIn_keeps r).2.2.2.2.2.2.2.2.2.1
@[simp] theorem State.grantsIn_discardMark (s : State) (r : GranuleRange) : (s.grantsIn r).discardMark = s.discardMark := (s.grantsIn_keeps r).2.2.2.2.2.2.2.2.2.2.1
@[simp] theorem State.grantsIn_link (s : State) (r : GranuleRange) : (s.grantsIn r).link = s.link := (s.grantsIn_keeps r).2.2.2.2.2.2.2.2.2.2.2.1
@[simp] theorem State.grantsIn_sampleTimer (s : State) (r : GranuleRange) : (s.grantsIn r).sampleTimer = s.sampleTimer := (s.grantsIn_keeps r).2.2.2.2.2.2.2.2.2.2.2.2.1
@[simp] theorem State.grantsIn_sampleLength (s : State) (r : GranuleRange) : (s.grantsIn r).sampleLength = s.sampleLength := (s.grantsIn_keeps r).2.2.2.2.2.2.2.2.2.2.2.2.2.1
@[simp] theorem State.grantsIn_atExpiry (s : State) (r : GranuleRange) : (s.grantsIn r).atExpiry = s.atExpiry := (s.grantsIn_keeps r).2.2.2.2.2.2.2.2.2.2.2.2.2.2.1
@[simp] theorem State.grantsIn_unitCounter (s : State) (r : GranuleRange) : (s.grantsIn r).unitCounter = s.unitCounter := (s.grantsIn_keeps r).2.2.2.2.2.2.2.2.2.2.2.2.2.2.2.1
@[simp] theorem State.grantsIn_refclkRunning (s : State) (r : GranuleRange) : (s.grantsIn r).refclkRunning = s.refclkRunning := (s.grantsIn_keeps r).2.2.2.2.2.2.2.2.2.2.2.2.2.2.2.2.1
@[simp] theorem State.grantsIn_resetLow (s : State) (r : GranuleRange) : (s.grantsIn r).resetLow = s.resetLow := (s.grantsIn_keeps r).2.2.2.2.2.2.2.2.2.2.2.2.2.2.2.2.2.1
@[simp] theorem State.grantsIn_inReset (s : State) (r : GranuleRange) : (s.grantsIn r).inReset = s.inReset := (s.grantsIn_keeps r).2.2.2.2.2.2.2.2.2.2.2.2.2.2.2.2.2.2.1
@[simp] theorem State.grantsIn_out (s : State) (r : GranuleRange) : (s.grantsIn r).out = s.out := (s.grantsIn_keeps r).2.2.2.2.2.2.2.2.2.2.2.2.2.2.2.2.2.2.2.1
@[simp] theorem State.grantsIn_draws (s : State) (r : GranuleRange) : (s.grantsIn r).draws = s.draws := (s.grantsIn_keeps r).2.2.2.2.2.2.2.2.2.2.2.2.2.2.2.2.2.2.2.2.1
@[simp] theorem State.grantsIn_pending (s : State) (r : GranuleRange) : (s.grantsIn r).pending = s.pending := (s.grantsIn_keeps r).2.2.2.2.2.2.2.2.2.2.2.2.2.2.2.2.2.2.2.2.2
@[simp] theorem State.grantsIn_window (s : State) (r : GranuleRange) (i : WindowIx) : (s.grantsIn r).window i = s.window i := by
  simp only [State.window, State.grantsIn_windows]

/-! What `State.writeRemoval` leaves unchanged. -/

theorem State.writeRemoval_keeps (s : State) (r : GranuleRange) :
    (s.writeRemoval r).windows = s.windows ∧
    (s.writeRemoval r).mon = s.mon ∧
    (s.writeRemoval r).sampleCode = s.sampleCode ∧
    (s.writeRemoval r).mask = s.mask ∧
    (s.writeRemoval r).flight = s.flight ∧
    (s.writeRemoval r).nomon = s.nomon ∧
    (s.writeRemoval r).replies = s.replies ∧
    (s.writeRemoval r).notices = s.notices ∧
    (s.writeRemoval r).overflow = s.overflow ∧
    (s.writeRemoval r).discardMark = s.discardMark ∧
    (s.writeRemoval r).link = s.link ∧
    (s.writeRemoval r).sampleTimer = s.sampleTimer ∧
    (s.writeRemoval r).sampleLength = s.sampleLength ∧
    (s.writeRemoval r).atExpiry = s.atExpiry ∧
    (s.writeRemoval r).unitCounter = s.unitCounter ∧
    (s.writeRemoval r).refclkRunning = s.refclkRunning ∧
    (s.writeRemoval r).resetLow = s.resetLow ∧
    (s.writeRemoval r).inReset = s.inReset ∧
    (s.writeRemoval r).out = s.out ∧
    (s.writeRemoval r).draws = s.draws ∧
    (s.writeRemoval r).pending = s.pending := by
  simp [State.writeRemoval]
@[simp] theorem State.writeRemoval_windows (s : State) (r : GranuleRange) : (s.writeRemoval r).windows = s.windows := (s.writeRemoval_keeps r).1
@[simp] theorem State.writeRemoval_mon (s : State) (r : GranuleRange) : (s.writeRemoval r).mon = s.mon := (s.writeRemoval_keeps r).2.1
@[simp] theorem State.writeRemoval_sampleCode (s : State) (r : GranuleRange) : (s.writeRemoval r).sampleCode = s.sampleCode := (s.writeRemoval_keeps r).2.2.1
@[simp] theorem State.writeRemoval_mask (s : State) (r : GranuleRange) : (s.writeRemoval r).mask = s.mask := (s.writeRemoval_keeps r).2.2.2.1
@[simp] theorem State.writeRemoval_flight (s : State) (r : GranuleRange) : (s.writeRemoval r).flight = s.flight := (s.writeRemoval_keeps r).2.2.2.2.1
@[simp] theorem State.writeRemoval_nomon (s : State) (r : GranuleRange) : (s.writeRemoval r).nomon = s.nomon := (s.writeRemoval_keeps r).2.2.2.2.2.1
@[simp] theorem State.writeRemoval_replies (s : State) (r : GranuleRange) : (s.writeRemoval r).replies = s.replies := (s.writeRemoval_keeps r).2.2.2.2.2.2.1
@[simp] theorem State.writeRemoval_notices (s : State) (r : GranuleRange) : (s.writeRemoval r).notices = s.notices := (s.writeRemoval_keeps r).2.2.2.2.2.2.2.1
@[simp] theorem State.writeRemoval_overflow (s : State) (r : GranuleRange) : (s.writeRemoval r).overflow = s.overflow := (s.writeRemoval_keeps r).2.2.2.2.2.2.2.2.1
@[simp] theorem State.writeRemoval_discardMark (s : State) (r : GranuleRange) : (s.writeRemoval r).discardMark = s.discardMark := (s.writeRemoval_keeps r).2.2.2.2.2.2.2.2.2.1
@[simp] theorem State.writeRemoval_link (s : State) (r : GranuleRange) : (s.writeRemoval r).link = s.link := (s.writeRemoval_keeps r).2.2.2.2.2.2.2.2.2.2.1
@[simp] theorem State.writeRemoval_sampleTimer (s : State) (r : GranuleRange) : (s.writeRemoval r).sampleTimer = s.sampleTimer := (s.writeRemoval_keeps r).2.2.2.2.2.2.2.2.2.2.2.1
@[simp] theorem State.writeRemoval_sampleLength (s : State) (r : GranuleRange) : (s.writeRemoval r).sampleLength = s.sampleLength := (s.writeRemoval_keeps r).2.2.2.2.2.2.2.2.2.2.2.2.1
@[simp] theorem State.writeRemoval_atExpiry (s : State) (r : GranuleRange) : (s.writeRemoval r).atExpiry = s.atExpiry := (s.writeRemoval_keeps r).2.2.2.2.2.2.2.2.2.2.2.2.2.1
@[simp] theorem State.writeRemoval_unitCounter (s : State) (r : GranuleRange) : (s.writeRemoval r).unitCounter = s.unitCounter := (s.writeRemoval_keeps r).2.2.2.2.2.2.2.2.2.2.2.2.2.2.1
@[simp] theorem State.writeRemoval_refclkRunning (s : State) (r : GranuleRange) : (s.writeRemoval r).refclkRunning = s.refclkRunning := (s.writeRemoval_keeps r).2.2.2.2.2.2.2.2.2.2.2.2.2.2.2.1
@[simp] theorem State.writeRemoval_resetLow (s : State) (r : GranuleRange) : (s.writeRemoval r).resetLow = s.resetLow := (s.writeRemoval_keeps r).2.2.2.2.2.2.2.2.2.2.2.2.2.2.2.2.1
@[simp] theorem State.writeRemoval_inReset (s : State) (r : GranuleRange) : (s.writeRemoval r).inReset = s.inReset := (s.writeRemoval_keeps r).2.2.2.2.2.2.2.2.2.2.2.2.2.2.2.2.2.1
@[simp] theorem State.writeRemoval_out (s : State) (r : GranuleRange) : (s.writeRemoval r).out = s.out := (s.writeRemoval_keeps r).2.2.2.2.2.2.2.2.2.2.2.2.2.2.2.2.2.2.1
@[simp] theorem State.writeRemoval_draws (s : State) (r : GranuleRange) : (s.writeRemoval r).draws = s.draws := (s.writeRemoval_keeps r).2.2.2.2.2.2.2.2.2.2.2.2.2.2.2.2.2.2.2.1
@[simp] theorem State.writeRemoval_pending (s : State) (r : GranuleRange) : (s.writeRemoval r).pending = s.pending := (s.writeRemoval_keeps r).2.2.2.2.2.2.2.2.2.2.2.2.2.2.2.2.2.2.2.2
@[simp] theorem State.writeRemoval_window (s : State) (r : GranuleRange) (i : WindowIx) : (s.writeRemoval r).window i = s.window i := by
  simp only [State.window, State.writeRemoval_windows]

/-! What `State.readFailed` leaves unchanged. -/

theorem State.readFailed_keeps (s : State) (m : Master) (armed : Bool) (h : Option EntryIx) :
    (s.readFailed m armed h).windows = s.windows ∧
    (s.readFailed m armed h).mon = s.mon ∧
    (s.readFailed m armed h).sampleCode = s.sampleCode ∧
    (s.readFailed m armed h).mask = s.mask ∧
    (s.readFailed m armed h).nomon = s.nomon ∧
    (s.readFailed m armed h).replies = s.replies ∧
    (s.readFailed m armed h).link = s.link ∧
    (s.readFailed m armed h).sampleTimer = s.sampleTimer ∧
    (s.readFailed m armed h).sampleLength = s.sampleLength ∧
    (s.readFailed m armed h).atExpiry = s.atExpiry ∧
    (s.readFailed m armed h).unitCounter = s.unitCounter ∧
    (s.readFailed m armed h).refclkRunning = s.refclkRunning ∧
    (s.readFailed m armed h).resetLow = s.resetLow ∧
    (s.readFailed m armed h).inReset = s.inReset ∧
    (s.readFailed m armed h).out = s.out ∧
    (s.readFailed m armed h).draws = s.draws ∧
    (s.readFailed m armed h).pending = s.pending := by
  unfold State.readFailed; dsimp only; split
  · split_ifs <;> simp
  · split_ifs <;> simp
@[simp] theorem State.readFailed_windows (s : State) (m : Master) (armed : Bool) (h : Option EntryIx) : (s.readFailed m armed h).windows = s.windows := (s.readFailed_keeps m armed h).1
@[simp] theorem State.readFailed_mon (s : State) (m : Master) (armed : Bool) (h : Option EntryIx) : (s.readFailed m armed h).mon = s.mon := (s.readFailed_keeps m armed h).2.1
@[simp] theorem State.readFailed_sampleCode (s : State) (m : Master) (armed : Bool) (h : Option EntryIx) : (s.readFailed m armed h).sampleCode = s.sampleCode := (s.readFailed_keeps m armed h).2.2.1
@[simp] theorem State.readFailed_mask (s : State) (m : Master) (armed : Bool) (h : Option EntryIx) : (s.readFailed m armed h).mask = s.mask := (s.readFailed_keeps m armed h).2.2.2.1
@[simp] theorem State.readFailed_nomon (s : State) (m : Master) (armed : Bool) (h : Option EntryIx) : (s.readFailed m armed h).nomon = s.nomon := (s.readFailed_keeps m armed h).2.2.2.2.1
@[simp] theorem State.readFailed_replies (s : State) (m : Master) (armed : Bool) (h : Option EntryIx) : (s.readFailed m armed h).replies = s.replies := (s.readFailed_keeps m armed h).2.2.2.2.2.1
@[simp] theorem State.readFailed_link (s : State) (m : Master) (armed : Bool) (h : Option EntryIx) : (s.readFailed m armed h).link = s.link := (s.readFailed_keeps m armed h).2.2.2.2.2.2.1
@[simp] theorem State.readFailed_sampleTimer (s : State) (m : Master) (armed : Bool) (h : Option EntryIx) : (s.readFailed m armed h).sampleTimer = s.sampleTimer := (s.readFailed_keeps m armed h).2.2.2.2.2.2.2.1
@[simp] theorem State.readFailed_sampleLength (s : State) (m : Master) (armed : Bool) (h : Option EntryIx) : (s.readFailed m armed h).sampleLength = s.sampleLength := (s.readFailed_keeps m armed h).2.2.2.2.2.2.2.2.1
@[simp] theorem State.readFailed_atExpiry (s : State) (m : Master) (armed : Bool) (h : Option EntryIx) : (s.readFailed m armed h).atExpiry = s.atExpiry := (s.readFailed_keeps m armed h).2.2.2.2.2.2.2.2.2.1
@[simp] theorem State.readFailed_unitCounter (s : State) (m : Master) (armed : Bool) (h : Option EntryIx) : (s.readFailed m armed h).unitCounter = s.unitCounter := (s.readFailed_keeps m armed h).2.2.2.2.2.2.2.2.2.2.1
@[simp] theorem State.readFailed_refclkRunning (s : State) (m : Master) (armed : Bool) (h : Option EntryIx) : (s.readFailed m armed h).refclkRunning = s.refclkRunning := (s.readFailed_keeps m armed h).2.2.2.2.2.2.2.2.2.2.2.1
@[simp] theorem State.readFailed_resetLow (s : State) (m : Master) (armed : Bool) (h : Option EntryIx) : (s.readFailed m armed h).resetLow = s.resetLow := (s.readFailed_keeps m armed h).2.2.2.2.2.2.2.2.2.2.2.2.1
@[simp] theorem State.readFailed_inReset (s : State) (m : Master) (armed : Bool) (h : Option EntryIx) : (s.readFailed m armed h).inReset = s.inReset := (s.readFailed_keeps m armed h).2.2.2.2.2.2.2.2.2.2.2.2.2.1
@[simp] theorem State.readFailed_out (s : State) (m : Master) (armed : Bool) (h : Option EntryIx) : (s.readFailed m armed h).out = s.out := (s.readFailed_keeps m armed h).2.2.2.2.2.2.2.2.2.2.2.2.2.2.1
@[simp] theorem State.readFailed_draws (s : State) (m : Master) (armed : Bool) (h : Option EntryIx) : (s.readFailed m armed h).draws = s.draws := (s.readFailed_keeps m armed h).2.2.2.2.2.2.2.2.2.2.2.2.2.2.2.1
@[simp] theorem State.readFailed_pending (s : State) (m : Master) (armed : Bool) (h : Option EntryIx) : (s.readFailed m armed h).pending = s.pending := (s.readFailed_keeps m armed h).2.2.2.2.2.2.2.2.2.2.2.2.2.2.2.2
@[simp] theorem State.readFailed_window (s : State) (m : Master) (armed : Bool) (h : Option EntryIx) (i : WindowIx) : (s.readFailed m armed h).window i = s.window i := by
  simp only [State.window, State.readFailed_windows]

/-! What `State.remove` leaves unchanged. -/

theorem State.remove_keeps (s : State) (f : Flight) (st : FarStatus) :
    (s.remove f st).windows = s.windows ∧
    (s.remove f st).mon = s.mon ∧
    (s.remove f st).sampleCode = s.sampleCode ∧
    (s.remove f st).mask = s.mask ∧
    (s.remove f st).nomon = s.nomon ∧
    (s.remove f st).replies = s.replies ∧
    (s.remove f st).link = s.link ∧
    (s.remove f st).sampleTimer = s.sampleTimer ∧
    (s.remove f st).sampleLength = s.sampleLength ∧
    (s.remove f st).atExpiry = s.atExpiry ∧
    (s.remove f st).unitCounter = s.unitCounter ∧
    (s.remove f st).refclkRunning = s.refclkRunning ∧
    (s.remove f st).resetLow = s.resetLow ∧
    (s.remove f st).inReset = s.inReset ∧
    (s.remove f st).out = s.out ∧
    (s.remove f st).draws = s.draws ∧
    (s.remove f st).pending = s.pending := by
  unfold State.remove; dsimp only; split <;> split_ifs <;> simp
@[simp] theorem State.remove_windows (s : State) (f : Flight) (st : FarStatus) : (s.remove f st).windows = s.windows := (s.remove_keeps f st).1
@[simp] theorem State.remove_mon (s : State) (f : Flight) (st : FarStatus) : (s.remove f st).mon = s.mon := (s.remove_keeps f st).2.1
@[simp] theorem State.remove_sampleCode (s : State) (f : Flight) (st : FarStatus) : (s.remove f st).sampleCode = s.sampleCode := (s.remove_keeps f st).2.2.1
@[simp] theorem State.remove_mask (s : State) (f : Flight) (st : FarStatus) : (s.remove f st).mask = s.mask := (s.remove_keeps f st).2.2.2.1
@[simp] theorem State.remove_nomon (s : State) (f : Flight) (st : FarStatus) : (s.remove f st).nomon = s.nomon := (s.remove_keeps f st).2.2.2.2.1
@[simp] theorem State.remove_replies (s : State) (f : Flight) (st : FarStatus) : (s.remove f st).replies = s.replies := (s.remove_keeps f st).2.2.2.2.2.1
@[simp] theorem State.remove_link (s : State) (f : Flight) (st : FarStatus) : (s.remove f st).link = s.link := (s.remove_keeps f st).2.2.2.2.2.2.1
@[simp] theorem State.remove_sampleTimer (s : State) (f : Flight) (st : FarStatus) : (s.remove f st).sampleTimer = s.sampleTimer := (s.remove_keeps f st).2.2.2.2.2.2.2.1
@[simp] theorem State.remove_sampleLength (s : State) (f : Flight) (st : FarStatus) : (s.remove f st).sampleLength = s.sampleLength := (s.remove_keeps f st).2.2.2.2.2.2.2.2.1
@[simp] theorem State.remove_atExpiry (s : State) (f : Flight) (st : FarStatus) : (s.remove f st).atExpiry = s.atExpiry := (s.remove_keeps f st).2.2.2.2.2.2.2.2.2.1
@[simp] theorem State.remove_unitCounter (s : State) (f : Flight) (st : FarStatus) : (s.remove f st).unitCounter = s.unitCounter := (s.remove_keeps f st).2.2.2.2.2.2.2.2.2.2.1
@[simp] theorem State.remove_refclkRunning (s : State) (f : Flight) (st : FarStatus) : (s.remove f st).refclkRunning = s.refclkRunning := (s.remove_keeps f st).2.2.2.2.2.2.2.2.2.2.2.1
@[simp] theorem State.remove_resetLow (s : State) (f : Flight) (st : FarStatus) : (s.remove f st).resetLow = s.resetLow := (s.remove_keeps f st).2.2.2.2.2.2.2.2.2.2.2.2.1
@[simp] theorem State.remove_inReset (s : State) (f : Flight) (st : FarStatus) : (s.remove f st).inReset = s.inReset := (s.remove_keeps f st).2.2.2.2.2.2.2.2.2.2.2.2.2.1
@[simp] theorem State.remove_out (s : State) (f : Flight) (st : FarStatus) : (s.remove f st).out = s.out := (s.remove_keeps f st).2.2.2.2.2.2.2.2.2.2.2.2.2.2.1
@[simp] theorem State.remove_draws (s : State) (f : Flight) (st : FarStatus) : (s.remove f st).draws = s.draws := (s.remove_keeps f st).2.2.2.2.2.2.2.2.2.2.2.2.2.2.2.1
@[simp] theorem State.remove_pending (s : State) (f : Flight) (st : FarStatus) : (s.remove f st).pending = s.pending := (s.remove_keeps f st).2.2.2.2.2.2.2.2.2.2.2.2.2.2.2.2
@[simp] theorem State.remove_window (s : State) (f : Flight) (st : FarStatus) (i : WindowIx) : (s.remove f st).window i = s.window i := by
  simp only [State.window, State.remove_windows]

/-! What `State.enterQueued` leaves unchanged. -/

theorem State.enterQueued_keeps (s : State) (e : EntryIx) :
    (s.enterQueued e).windows = s.windows ∧
    (s.enterQueued e).mon = s.mon ∧
    (s.enterQueued e).sampleCode = s.sampleCode ∧
    (s.enterQueued e).mask = s.mask ∧
    (s.enterQueued e).nomon = s.nomon ∧
    (s.enterQueued e).replies = s.replies ∧
    (s.enterQueued e).link = s.link ∧
    (s.enterQueued e).sampleTimer = s.sampleTimer ∧
    (s.enterQueued e).sampleLength = s.sampleLength ∧
    (s.enterQueued e).atExpiry = s.atExpiry ∧
    (s.enterQueued e).unitCounter = s.unitCounter ∧
    (s.enterQueued e).refclkRunning = s.refclkRunning ∧
    (s.enterQueued e).resetLow = s.resetLow ∧
    (s.enterQueued e).inReset = s.inReset ∧
    (s.enterQueued e).out = s.out ∧
    (s.enterQueued e).draws = s.draws ∧
    (s.enterQueued e).pending = s.pending := by
  simp [State.enterQueued]
@[simp] theorem State.enterQueued_windows (s : State) (e : EntryIx) : (s.enterQueued e).windows = s.windows := (s.enterQueued_keeps e).1
@[simp] theorem State.enterQueued_mon (s : State) (e : EntryIx) : (s.enterQueued e).mon = s.mon := (s.enterQueued_keeps e).2.1
@[simp] theorem State.enterQueued_sampleCode (s : State) (e : EntryIx) : (s.enterQueued e).sampleCode = s.sampleCode := (s.enterQueued_keeps e).2.2.1
@[simp] theorem State.enterQueued_mask (s : State) (e : EntryIx) : (s.enterQueued e).mask = s.mask := (s.enterQueued_keeps e).2.2.2.1
@[simp] theorem State.enterQueued_nomon (s : State) (e : EntryIx) : (s.enterQueued e).nomon = s.nomon := (s.enterQueued_keeps e).2.2.2.2.1
@[simp] theorem State.enterQueued_replies (s : State) (e : EntryIx) : (s.enterQueued e).replies = s.replies := (s.enterQueued_keeps e).2.2.2.2.2.1
@[simp] theorem State.enterQueued_link (s : State) (e : EntryIx) : (s.enterQueued e).link = s.link := (s.enterQueued_keeps e).2.2.2.2.2.2.1
@[simp] theorem State.enterQueued_sampleTimer (s : State) (e : EntryIx) : (s.enterQueued e).sampleTimer = s.sampleTimer := (s.enterQueued_keeps e).2.2.2.2.2.2.2.1
@[simp] theorem State.enterQueued_sampleLength (s : State) (e : EntryIx) : (s.enterQueued e).sampleLength = s.sampleLength := (s.enterQueued_keeps e).2.2.2.2.2.2.2.2.1
@[simp] theorem State.enterQueued_atExpiry (s : State) (e : EntryIx) : (s.enterQueued e).atExpiry = s.atExpiry := (s.enterQueued_keeps e).2.2.2.2.2.2.2.2.2.1
@[simp] theorem State.enterQueued_unitCounter (s : State) (e : EntryIx) : (s.enterQueued e).unitCounter = s.unitCounter := (s.enterQueued_keeps e).2.2.2.2.2.2.2.2.2.2.1
@[simp] theorem State.enterQueued_refclkRunning (s : State) (e : EntryIx) : (s.enterQueued e).refclkRunning = s.refclkRunning := (s.enterQueued_keeps e).2.2.2.2.2.2.2.2.2.2.2.1
@[simp] theorem State.enterQueued_resetLow (s : State) (e : EntryIx) : (s.enterQueued e).resetLow = s.resetLow := (s.enterQueued_keeps e).2.2.2.2.2.2.2.2.2.2.2.2.1
@[simp] theorem State.enterQueued_inReset (s : State) (e : EntryIx) : (s.enterQueued e).inReset = s.inReset := (s.enterQueued_keeps e).2.2.2.2.2.2.2.2.2.2.2.2.2.1
@[simp] theorem State.enterQueued_out (s : State) (e : EntryIx) : (s.enterQueued e).out = s.out := (s.enterQueued_keeps e).2.2.2.2.2.2.2.2.2.2.2.2.2.2.1
@[simp] theorem State.enterQueued_draws (s : State) (e : EntryIx) : (s.enterQueued e).draws = s.draws := (s.enterQueued_keeps e).2.2.2.2.2.2.2.2.2.2.2.2.2.2.2.1
@[simp] theorem State.enterQueued_pending (s : State) (e : EntryIx) : (s.enterQueued e).pending = s.pending := (s.enterQueued_keeps e).2.2.2.2.2.2.2.2.2.2.2.2.2.2.2.2
@[simp] theorem State.enterQueued_window (s : State) (e : EntryIx) (i : WindowIx) : (s.enterQueued e).window i = s.window i := by
  simp only [State.window, State.enterQueued_windows]

/-! What `State.leaveQueued` leaves unchanged. -/

theorem State.leaveQueued_keeps (s : State) (e : EntryIx) :
    (s.leaveQueued e).windows = s.windows ∧
    (s.leaveQueued e).mon = s.mon ∧
    (s.leaveQueued e).sampleCode = s.sampleCode ∧
    (s.leaveQueued e).mask = s.mask ∧
    (s.leaveQueued e).contexts = s.contexts ∧
    (s.leaveQueued e).flight = s.flight ∧
    (s.leaveQueued e).hazard = s.hazard ∧
    (s.leaveQueued e).nomon = s.nomon ∧
    (s.leaveQueued e).released = s.released ∧
    (s.leaveQueued e).replies = s.replies ∧
    (s.leaveQueued e).link = s.link ∧
    (s.leaveQueued e).sampleTimer = s.sampleTimer ∧
    (s.leaveQueued e).sampleLength = s.sampleLength ∧
    (s.leaveQueued e).atExpiry = s.atExpiry ∧
    (s.leaveQueued e).unitCounter = s.unitCounter ∧
    (s.leaveQueued e).refclkRunning = s.refclkRunning ∧
    (s.leaveQueued e).resetLow = s.resetLow ∧
    (s.leaveQueued e).inReset = s.inReset ∧
    (s.leaveQueued e).out = s.out ∧
    (s.leaveQueued e).draws = s.draws ∧
    (s.leaveQueued e).pending = s.pending := by
  unfold State.leaveQueued; split_ifs <;> simp
@[simp] theorem State.leaveQueued_windows (s : State) (e : EntryIx) : (s.leaveQueued e).windows = s.windows := (s.leaveQueued_keeps e).1
@[simp] theorem State.leaveQueued_mon (s : State) (e : EntryIx) : (s.leaveQueued e).mon = s.mon := (s.leaveQueued_keeps e).2.1
@[simp] theorem State.leaveQueued_sampleCode (s : State) (e : EntryIx) : (s.leaveQueued e).sampleCode = s.sampleCode := (s.leaveQueued_keeps e).2.2.1
@[simp] theorem State.leaveQueued_mask (s : State) (e : EntryIx) : (s.leaveQueued e).mask = s.mask := (s.leaveQueued_keeps e).2.2.2.1
@[simp] theorem State.leaveQueued_contexts (s : State) (e : EntryIx) : (s.leaveQueued e).contexts = s.contexts := (s.leaveQueued_keeps e).2.2.2.2.1
@[simp] theorem State.leaveQueued_flight (s : State) (e : EntryIx) : (s.leaveQueued e).flight = s.flight := (s.leaveQueued_keeps e).2.2.2.2.2.1
@[simp] theorem State.leaveQueued_hazard (s : State) (e : EntryIx) : (s.leaveQueued e).hazard = s.hazard := (s.leaveQueued_keeps e).2.2.2.2.2.2.1
@[simp] theorem State.leaveQueued_nomon (s : State) (e : EntryIx) : (s.leaveQueued e).nomon = s.nomon := (s.leaveQueued_keeps e).2.2.2.2.2.2.2.1
@[simp] theorem State.leaveQueued_released (s : State) (e : EntryIx) : (s.leaveQueued e).released = s.released := (s.leaveQueued_keeps e).2.2.2.2.2.2.2.2.1
@[simp] theorem State.leaveQueued_replies (s : State) (e : EntryIx) : (s.leaveQueued e).replies = s.replies := (s.leaveQueued_keeps e).2.2.2.2.2.2.2.2.2.1
@[simp] theorem State.leaveQueued_link (s : State) (e : EntryIx) : (s.leaveQueued e).link = s.link := (s.leaveQueued_keeps e).2.2.2.2.2.2.2.2.2.2.1
@[simp] theorem State.leaveQueued_sampleTimer (s : State) (e : EntryIx) : (s.leaveQueued e).sampleTimer = s.sampleTimer := (s.leaveQueued_keeps e).2.2.2.2.2.2.2.2.2.2.2.1
@[simp] theorem State.leaveQueued_sampleLength (s : State) (e : EntryIx) : (s.leaveQueued e).sampleLength = s.sampleLength := (s.leaveQueued_keeps e).2.2.2.2.2.2.2.2.2.2.2.2.1
@[simp] theorem State.leaveQueued_atExpiry (s : State) (e : EntryIx) : (s.leaveQueued e).atExpiry = s.atExpiry := (s.leaveQueued_keeps e).2.2.2.2.2.2.2.2.2.2.2.2.2.1
@[simp] theorem State.leaveQueued_unitCounter (s : State) (e : EntryIx) : (s.leaveQueued e).unitCounter = s.unitCounter := (s.leaveQueued_keeps e).2.2.2.2.2.2.2.2.2.2.2.2.2.2.1
@[simp] theorem State.leaveQueued_refclkRunning (s : State) (e : EntryIx) : (s.leaveQueued e).refclkRunning = s.refclkRunning := (s.leaveQueued_keeps e).2.2.2.2.2.2.2.2.2.2.2.2.2.2.2.1
@[simp] theorem State.leaveQueued_resetLow (s : State) (e : EntryIx) : (s.leaveQueued e).resetLow = s.resetLow := (s.leaveQueued_keeps e).2.2.2.2.2.2.2.2.2.2.2.2.2.2.2.2.1
@[simp] theorem State.leaveQueued_inReset (s : State) (e : EntryIx) : (s.leaveQueued e).inReset = s.inReset := (s.leaveQueued_keeps e).2.2.2.2.2.2.2.2.2.2.2.2.2.2.2.2.2.1
@[simp] theorem State.leaveQueued_out (s : State) (e : EntryIx) : (s.leaveQueued e).out = s.out := (s.leaveQueued_keeps e).2.2.2.2.2.2.2.2.2.2.2.2.2.2.2.2.2.2.1
@[simp] theorem State.leaveQueued_draws (s : State) (e : EntryIx) : (s.leaveQueued e).draws = s.draws := (s.leaveQueued_keeps e).2.2.2.2.2.2.2.2.2.2.2.2.2.2.2.2.2.2.2.1
@[simp] theorem State.leaveQueued_pending (s : State) (e : EntryIx) : (s.leaveQueued e).pending = s.pending := (s.leaveQueued_keeps e).2.2.2.2.2.2.2.2.2.2.2.2.2.2.2.2.2.2.2.2
@[simp] theorem State.leaveQueued_ctx (s : State) (e : EntryIx) (i : Master) : (s.leaveQueued e).ctx i = s.ctx i := by
  simp only [State.ctx, State.leaveQueued_contexts]
@[simp] theorem State.leaveQueued_window (s : State) (e : EntryIx) (i : WindowIx) : (s.leaveQueued e).window i = s.window i := by
  simp only [State.window, State.leaveQueued_windows]

/-! What `State.processEntry` leaves unchanged. -/

theorem State.processEntry_keeps (s : State) (e : EntryIx) :
    (s.processEntry e).windows = s.windows ∧
    (s.processEntry e).mon = s.mon ∧
    (s.processEntry e).sampleCode = s.sampleCode ∧
    (s.processEntry e).mask = s.mask ∧
    (s.processEntry e).nomon = s.nomon ∧
    (s.processEntry e).replies = s.replies ∧
    (s.processEntry e).link = s.link ∧
    (s.processEntry e).sampleTimer = s.sampleTimer ∧
    (s.processEntry e).sampleLength = s.sampleLength ∧
    (s.processEntry e).atExpiry = s.atExpiry ∧
    (s.processEntry e).unitCounter = s.unitCounter ∧
    (s.processEntry e).refclkRunning = s.refclkRunning ∧
    (s.processEntry e).resetLow = s.resetLow ∧
    (s.processEntry e).inReset = s.inReset ∧
    (s.processEntry e).out = s.out ∧
    (s.processEntry e).draws = s.draws ∧
    (s.processEntry e).pending = s.pending := by
  unfold State.processEntry; dsimp only; split <;> (try split_ifs) <;> simp
@[simp] theorem State.processEntry_windows (s : State) (e : EntryIx) : (s.processEntry e).windows = s.windows := (s.processEntry_keeps e).1
@[simp] theorem State.processEntry_mon (s : State) (e : EntryIx) : (s.processEntry e).mon = s.mon := (s.processEntry_keeps e).2.1
@[simp] theorem State.processEntry_sampleCode (s : State) (e : EntryIx) : (s.processEntry e).sampleCode = s.sampleCode := (s.processEntry_keeps e).2.2.1
@[simp] theorem State.processEntry_mask (s : State) (e : EntryIx) : (s.processEntry e).mask = s.mask := (s.processEntry_keeps e).2.2.2.1
@[simp] theorem State.processEntry_nomon (s : State) (e : EntryIx) : (s.processEntry e).nomon = s.nomon := (s.processEntry_keeps e).2.2.2.2.1
@[simp] theorem State.processEntry_replies (s : State) (e : EntryIx) : (s.processEntry e).replies = s.replies := (s.processEntry_keeps e).2.2.2.2.2.1
@[simp] theorem State.processEntry_link (s : State) (e : EntryIx) : (s.processEntry e).link = s.link := (s.processEntry_keeps e).2.2.2.2.2.2.1
@[simp] theorem State.processEntry_sampleTimer (s : State) (e : EntryIx) : (s.processEntry e).sampleTimer = s.sampleTimer := (s.processEntry_keeps e).2.2.2.2.2.2.2.1
@[simp] theorem State.processEntry_sampleLength (s : State) (e : EntryIx) : (s.processEntry e).sampleLength = s.sampleLength := (s.processEntry_keeps e).2.2.2.2.2.2.2.2.1
@[simp] theorem State.processEntry_atExpiry (s : State) (e : EntryIx) : (s.processEntry e).atExpiry = s.atExpiry := (s.processEntry_keeps e).2.2.2.2.2.2.2.2.2.1
@[simp] theorem State.processEntry_unitCounter (s : State) (e : EntryIx) : (s.processEntry e).unitCounter = s.unitCounter := (s.processEntry_keeps e).2.2.2.2.2.2.2.2.2.2.1
@[simp] theorem State.processEntry_refclkRunning (s : State) (e : EntryIx) : (s.processEntry e).refclkRunning = s.refclkRunning := (s.processEntry_keeps e).2.2.2.2.2.2.2.2.2.2.2.1
@[simp] theorem State.processEntry_resetLow (s : State) (e : EntryIx) : (s.processEntry e).resetLow = s.resetLow := (s.processEntry_keeps e).2.2.2.2.2.2.2.2.2.2.2.2.1
@[simp] theorem State.processEntry_inReset (s : State) (e : EntryIx) : (s.processEntry e).inReset = s.inReset := (s.processEntry_keeps e).2.2.2.2.2.2.2.2.2.2.2.2.2.1
@[simp] theorem State.processEntry_out (s : State) (e : EntryIx) : (s.processEntry e).out = s.out := (s.processEntry_keeps e).2.2.2.2.2.2.2.2.2.2.2.2.2.2.1
@[simp] theorem State.processEntry_draws (s : State) (e : EntryIx) : (s.processEntry e).draws = s.draws := (s.processEntry_keeps e).2.2.2.2.2.2.2.2.2.2.2.2.2.2.2.1
@[simp] theorem State.processEntry_pending (s : State) (e : EntryIx) : (s.processEntry e).pending = s.pending := (s.processEntry_keeps e).2.2.2.2.2.2.2.2.2.2.2.2.2.2.2.2
@[simp] theorem State.processEntry_window (s : State) (e : EntryIx) (i : WindowIx) : (s.processEntry e).window i = s.window i := by
  simp only [State.window, State.processEntry_windows]

/-! What `State.expireTenure` leaves unchanged. -/

theorem State.expireTenure_keeps (s : State) (e : EntryIx) :
    (s.expireTenure e).windows = s.windows ∧
    (s.expireTenure e).mon = s.mon ∧
    (s.expireTenure e).sampleCode = s.sampleCode ∧
    (s.expireTenure e).mask = s.mask ∧
    (s.expireTenure e).nomon = s.nomon ∧
    (s.expireTenure e).replies = s.replies ∧
    (s.expireTenure e).link = s.link ∧
    (s.expireTenure e).sampleTimer = s.sampleTimer ∧
    (s.expireTenure e).sampleLength = s.sampleLength ∧
    (s.expireTenure e).atExpiry = s.atExpiry ∧
    (s.expireTenure e).unitCounter = s.unitCounter ∧
    (s.expireTenure e).refclkRunning = s.refclkRunning ∧
    (s.expireTenure e).resetLow = s.resetLow ∧
    (s.expireTenure e).inReset = s.inReset ∧
    (s.expireTenure e).out = s.out ∧
    (s.expireTenure e).draws = s.draws ∧
    (s.expireTenure e).pending = s.pending := by
  unfold State.expireTenure; split
  · simp
  · simp
@[simp] theorem State.expireTenure_windows (s : State) (e : EntryIx) : (s.expireTenure e).windows = s.windows := (s.expireTenure_keeps e).1
@[simp] theorem State.expireTenure_mon (s : State) (e : EntryIx) : (s.expireTenure e).mon = s.mon := (s.expireTenure_keeps e).2.1
@[simp] theorem State.expireTenure_sampleCode (s : State) (e : EntryIx) : (s.expireTenure e).sampleCode = s.sampleCode := (s.expireTenure_keeps e).2.2.1
@[simp] theorem State.expireTenure_mask (s : State) (e : EntryIx) : (s.expireTenure e).mask = s.mask := (s.expireTenure_keeps e).2.2.2.1
@[simp] theorem State.expireTenure_nomon (s : State) (e : EntryIx) : (s.expireTenure e).nomon = s.nomon := (s.expireTenure_keeps e).2.2.2.2.1
@[simp] theorem State.expireTenure_replies (s : State) (e : EntryIx) : (s.expireTenure e).replies = s.replies := (s.expireTenure_keeps e).2.2.2.2.2.1
@[simp] theorem State.expireTenure_link (s : State) (e : EntryIx) : (s.expireTenure e).link = s.link := (s.expireTenure_keeps e).2.2.2.2.2.2.1
@[simp] theorem State.expireTenure_sampleTimer (s : State) (e : EntryIx) : (s.expireTenure e).sampleTimer = s.sampleTimer := (s.expireTenure_keeps e).2.2.2.2.2.2.2.1
@[simp] theorem State.expireTenure_sampleLength (s : State) (e : EntryIx) : (s.expireTenure e).sampleLength = s.sampleLength := (s.expireTenure_keeps e).2.2.2.2.2.2.2.2.1
@[simp] theorem State.expireTenure_atExpiry (s : State) (e : EntryIx) : (s.expireTenure e).atExpiry = s.atExpiry := (s.expireTenure_keeps e).2.2.2.2.2.2.2.2.2.1
@[simp] theorem State.expireTenure_unitCounter (s : State) (e : EntryIx) : (s.expireTenure e).unitCounter = s.unitCounter := (s.expireTenure_keeps e).2.2.2.2.2.2.2.2.2.2.1
@[simp] theorem State.expireTenure_refclkRunning (s : State) (e : EntryIx) : (s.expireTenure e).refclkRunning = s.refclkRunning := (s.expireTenure_keeps e).2.2.2.2.2.2.2.2.2.2.2.1
@[simp] theorem State.expireTenure_resetLow (s : State) (e : EntryIx) : (s.expireTenure e).resetLow = s.resetLow := (s.expireTenure_keeps e).2.2.2.2.2.2.2.2.2.2.2.2.1
@[simp] theorem State.expireTenure_inReset (s : State) (e : EntryIx) : (s.expireTenure e).inReset = s.inReset := (s.expireTenure_keeps e).2.2.2.2.2.2.2.2.2.2.2.2.2.1
@[simp] theorem State.expireTenure_out (s : State) (e : EntryIx) : (s.expireTenure e).out = s.out := (s.expireTenure_keeps e).2.2.2.2.2.2.2.2.2.2.2.2.2.2.1
@[simp] theorem State.expireTenure_draws (s : State) (e : EntryIx) : (s.expireTenure e).draws = s.draws := (s.expireTenure_keeps e).2.2.2.2.2.2.2.2.2.2.2.2.2.2.2.1
@[simp] theorem State.expireTenure_pending (s : State) (e : EntryIx) : (s.expireTenure e).pending = s.pending := (s.expireTenure_keeps e).2.2.2.2.2.2.2.2.2.2.2.2.2.2.2.2
@[simp] theorem State.expireTenure_window (s : State) (e : EntryIx) (i : WindowIx) : (s.expireTenure e).window i = s.window i := by
  simp only [State.window, State.expireTenure_windows]

/-! What `State.expire` leaves unchanged. -/

theorem State.expire_keeps (s : State) :
    (s.expire).windows = s.windows ∧
    (s.expire).mon = s.mon ∧
    (s.expire).sampleCode = s.sampleCode ∧
    (s.expire).mask = s.mask ∧
    (s.expire).nomon = s.nomon ∧
    (s.expire).replies = s.replies ∧
    (s.expire).link = s.link ∧
    (s.expire).unitCounter = s.unitCounter ∧
    (s.expire).refclkRunning = s.refclkRunning ∧
    (s.expire).resetLow = s.resetLow ∧
    (s.expire).inReset = s.inReset ∧
    (s.expire).out = s.out ∧
    (s.expire).draws = s.draws ∧
    (s.expire).pending = s.pending := by
  unfold State.expire
  exact ⟨foldl_keeps State.windows (fun a e => by simp) _ _,
    foldl_keeps State.mon (fun a e => by simp) _ _,
    foldl_keeps State.sampleCode (fun a e => by simp) _ _,
    foldl_keeps State.mask (fun a e => by simp) _ _,
    foldl_keeps State.nomon (fun a e => by simp) _ _,
    foldl_keeps State.replies (fun a e => by simp) _ _,
    foldl_keeps State.link (fun a e => by simp) _ _,
    foldl_keeps State.unitCounter (fun a e => by simp) _ _,
    foldl_keeps State.refclkRunning (fun a e => by simp) _ _,
    foldl_keeps State.resetLow (fun a e => by simp) _ _,
    foldl_keeps State.inReset (fun a e => by simp) _ _,
    foldl_keeps State.out (fun a e => by simp) _ _,
    foldl_keeps State.draws (fun a e => by simp) _ _,
    foldl_keeps State.pending (fun a e => by simp) _ _⟩
@[simp] theorem State.expire_windows (s : State) : (s.expire).windows = s.windows := (s.expire_keeps).1
@[simp] theorem State.expire_mon (s : State) : (s.expire).mon = s.mon := (s.expire_keeps).2.1
@[simp] theorem State.expire_sampleCode (s : State) : (s.expire).sampleCode = s.sampleCode := (s.expire_keeps).2.2.1
@[simp] theorem State.expire_mask (s : State) : (s.expire).mask = s.mask := (s.expire_keeps).2.2.2.1
@[simp] theorem State.expire_nomon (s : State) : (s.expire).nomon = s.nomon := (s.expire_keeps).2.2.2.2.1
@[simp] theorem State.expire_replies (s : State) : (s.expire).replies = s.replies := (s.expire_keeps).2.2.2.2.2.1
@[simp] theorem State.expire_link (s : State) : (s.expire).link = s.link := (s.expire_keeps).2.2.2.2.2.2.1
@[simp] theorem State.expire_unitCounter (s : State) : (s.expire).unitCounter = s.unitCounter := (s.expire_keeps).2.2.2.2.2.2.2.1
@[simp] theorem State.expire_refclkRunning (s : State) : (s.expire).refclkRunning = s.refclkRunning := (s.expire_keeps).2.2.2.2.2.2.2.2.1
@[simp] theorem State.expire_resetLow (s : State) : (s.expire).resetLow = s.resetLow := (s.expire_keeps).2.2.2.2.2.2.2.2.2.1
@[simp] theorem State.expire_inReset (s : State) : (s.expire).inReset = s.inReset := (s.expire_keeps).2.2.2.2.2.2.2.2.2.2.1
@[simp] theorem State.expire_out (s : State) : (s.expire).out = s.out := (s.expire_keeps).2.2.2.2.2.2.2.2.2.2.2.1
@[simp] theorem State.expire_draws (s : State) : (s.expire).draws = s.draws := (s.expire_keeps).2.2.2.2.2.2.2.2.2.2.2.2.1
@[simp] theorem State.expire_pending (s : State) : (s.expire).pending = s.pending := (s.expire_keeps).2.2.2.2.2.2.2.2.2.2.2.2.2
@[simp] theorem State.expire_window (s : State) (i : WindowIx) : (s.expire).window i = s.window i := by
  simp only [State.window, State.expire_windows]

/-! What `State.unit` leaves unchanged. -/

theorem State.unit_keeps (s : State) :
    (s.unit).windows = s.windows ∧
    (s.unit).mon = s.mon ∧
    (s.unit).sampleCode = s.sampleCode ∧
    (s.unit).mask = s.mask ∧
    (s.unit).nomon = s.nomon ∧
    (s.unit).replies = s.replies ∧
    (s.unit).link = s.link ∧
    (s.unit).sampleTimer = s.sampleTimer ∧
    (s.unit).sampleLength = s.sampleLength ∧
    (s.unit).atExpiry = s.atExpiry ∧
    (s.unit).refclkRunning = s.refclkRunning ∧
    (s.unit).resetLow = s.resetLow ∧
    (s.unit).inReset = s.inReset ∧
    (s.unit).out = s.out ∧
    (s.unit).pending = s.pending := by
  unfold State.unit
  exact ⟨(foldl_keeps State.windows (fun a e => by simp) _ _).trans (by simp),
    (foldl_keeps State.mon (fun a e => by simp) _ _).trans (by simp),
    (foldl_keeps State.sampleCode (fun a e => by simp) _ _).trans (by simp),
    (foldl_keeps State.mask (fun a e => by simp) _ _).trans (by simp),
    (foldl_keeps State.nomon (fun a e => by simp) _ _).trans (by simp),
    (foldl_keeps State.replies (fun a e => by simp) _ _).trans (by simp),
    (foldl_keeps State.link (fun a e => by simp) _ _).trans (by simp),
    (foldl_keeps State.sampleTimer (fun a e => by simp) _ _).trans (by simp),
    (foldl_keeps State.sampleLength (fun a e => by simp) _ _).trans (by simp),
    (foldl_keeps State.atExpiry (fun a e => by simp) _ _).trans (by simp),
    (foldl_keeps State.refclkRunning (fun a e => by simp) _ _).trans (by simp),
    (foldl_keeps State.resetLow (fun a e => by simp) _ _).trans (by simp),
    (foldl_keeps State.inReset (fun a e => by simp) _ _).trans (by simp),
    (foldl_keeps State.out (fun a e => by simp) _ _).trans (by simp),
    (foldl_keeps State.pending (fun a e => by simp) _ _).trans (by simp)⟩
@[simp] theorem State.unit_windows (s : State) : (s.unit).windows = s.windows := (s.unit_keeps).1
@[simp] theorem State.unit_mon (s : State) : (s.unit).mon = s.mon := (s.unit_keeps).2.1
@[simp] theorem State.unit_sampleCode (s : State) : (s.unit).sampleCode = s.sampleCode := (s.unit_keeps).2.2.1
@[simp] theorem State.unit_mask (s : State) : (s.unit).mask = s.mask := (s.unit_keeps).2.2.2.1
@[simp] theorem State.unit_nomon (s : State) : (s.unit).nomon = s.nomon := (s.unit_keeps).2.2.2.2.1
@[simp] theorem State.unit_replies (s : State) : (s.unit).replies = s.replies := (s.unit_keeps).2.2.2.2.2.1
@[simp] theorem State.unit_link (s : State) : (s.unit).link = s.link := (s.unit_keeps).2.2.2.2.2.2.1
@[simp] theorem State.unit_sampleTimer (s : State) : (s.unit).sampleTimer = s.sampleTimer := (s.unit_keeps).2.2.2.2.2.2.2.1
@[simp] theorem State.unit_sampleLength (s : State) : (s.unit).sampleLength = s.sampleLength := (s.unit_keeps).2.2.2.2.2.2.2.2.1
@[simp] theorem State.unit_atExpiry (s : State) : (s.unit).atExpiry = s.atExpiry := (s.unit_keeps).2.2.2.2.2.2.2.2.2.1
@[simp] theorem State.unit_refclkRunning (s : State) : (s.unit).refclkRunning = s.refclkRunning := (s.unit_keeps).2.2.2.2.2.2.2.2.2.2.1
@[simp] theorem State.unit_resetLow (s : State) : (s.unit).resetLow = s.resetLow := (s.unit_keeps).2.2.2.2.2.2.2.2.2.2.2.1
@[simp] theorem State.unit_inReset (s : State) : (s.unit).inReset = s.inReset := (s.unit_keeps).2.2.2.2.2.2.2.2.2.2.2.2.1
@[simp] theorem State.unit_out (s : State) : (s.unit).out = s.out := (s.unit_keeps).2.2.2.2.2.2.2.2.2.2.2.2.2.1
@[simp] theorem State.unit_pending (s : State) : (s.unit).pending = s.pending := (s.unit_keeps).2.2.2.2.2.2.2.2.2.2.2.2.2.2
@[simp] theorem State.unit_window (s : State) (i : WindowIx) : (s.unit).window i = s.window i := by
  simp only [State.window, State.unit_windows]

/-! What `State.carryOut` leaves unchanged. -/

theorem State.carryOut_keeps (s : State) (r : Request) (d : Disposition) :
    (s.carryOut r d).windows = s.windows ∧
    (s.carryOut r d).mon = s.mon ∧
    (s.carryOut r d).sampleCode = s.sampleCode ∧
    (s.carryOut r d).mask = s.mask ∧
    (s.carryOut r d).link = s.link ∧
    (s.carryOut r d).sampleTimer = s.sampleTimer ∧
    (s.carryOut r d).sampleLength = s.sampleLength ∧
    (s.carryOut r d).atExpiry = s.atExpiry ∧
    (s.carryOut r d).unitCounter = s.unitCounter ∧
    (s.carryOut r d).refclkRunning = s.refclkRunning ∧
    (s.carryOut r d).resetLow = s.resetLow ∧
    (s.carryOut r d).inReset = s.inReset ∧
    (s.carryOut r d).draws = s.draws ∧
    (s.carryOut r d).pending = s.pending := by
  unfold State.carryOut; dsimp only; split <;> simp
@[simp] theorem State.carryOut_windows (s : State) (r : Request) (d : Disposition) : (s.carryOut r d).windows = s.windows := (s.carryOut_keeps r d).1
@[simp] theorem State.carryOut_mon (s : State) (r : Request) (d : Disposition) : (s.carryOut r d).mon = s.mon := (s.carryOut_keeps r d).2.1
@[simp] theorem State.carryOut_sampleCode (s : State) (r : Request) (d : Disposition) : (s.carryOut r d).sampleCode = s.sampleCode := (s.carryOut_keeps r d).2.2.1
@[simp] theorem State.carryOut_mask (s : State) (r : Request) (d : Disposition) : (s.carryOut r d).mask = s.mask := (s.carryOut_keeps r d).2.2.2.1
@[simp] theorem State.carryOut_link (s : State) (r : Request) (d : Disposition) : (s.carryOut r d).link = s.link := (s.carryOut_keeps r d).2.2.2.2.1
@[simp] theorem State.carryOut_sampleTimer (s : State) (r : Request) (d : Disposition) : (s.carryOut r d).sampleTimer = s.sampleTimer := (s.carryOut_keeps r d).2.2.2.2.2.1
@[simp] theorem State.carryOut_sampleLength (s : State) (r : Request) (d : Disposition) : (s.carryOut r d).sampleLength = s.sampleLength := (s.carryOut_keeps r d).2.2.2.2.2.2.1
@[simp] theorem State.carryOut_atExpiry (s : State) (r : Request) (d : Disposition) : (s.carryOut r d).atExpiry = s.atExpiry := (s.carryOut_keeps r d).2.2.2.2.2.2.2.1
@[simp] theorem State.carryOut_unitCounter (s : State) (r : Request) (d : Disposition) : (s.carryOut r d).unitCounter = s.unitCounter := (s.carryOut_keeps r d).2.2.2.2.2.2.2.2.1
@[simp] theorem State.carryOut_refclkRunning (s : State) (r : Request) (d : Disposition) : (s.carryOut r d).refclkRunning = s.refclkRunning := (s.carryOut_keeps r d).2.2.2.2.2.2.2.2.2.1
@[simp] theorem State.carryOut_resetLow (s : State) (r : Request) (d : Disposition) : (s.carryOut r d).resetLow = s.resetLow := (s.carryOut_keeps r d).2.2.2.2.2.2.2.2.2.2.1
@[simp] theorem State.carryOut_inReset (s : State) (r : Request) (d : Disposition) : (s.carryOut r d).inReset = s.inReset := (s.carryOut_keeps r d).2.2.2.2.2.2.2.2.2.2.2.1
@[simp] theorem State.carryOut_draws (s : State) (r : Request) (d : Disposition) : (s.carryOut r d).draws = s.draws := (s.carryOut_keeps r d).2.2.2.2.2.2.2.2.2.2.2.2.1
@[simp] theorem State.carryOut_pending (s : State) (r : Request) (d : Disposition) : (s.carryOut r d).pending = s.pending := (s.carryOut_keeps r d).2.2.2.2.2.2.2.2.2.2.2.2.2
@[simp] theorem State.carryOut_window (s : State) (r : Request) (d : Disposition) (i : WindowIx) : (s.carryOut r d).window i = s.window i := by
  simp only [State.window, State.carryOut_windows]

/-! What `State.settleResponse` leaves unchanged. -/

theorem State.settleResponse_keeps (s : State) (r : FarResponse) :
    (s.settleResponse r).windows = s.windows ∧
    (s.settleResponse r).mon = s.mon ∧
    (s.settleResponse r).sampleCode = s.sampleCode ∧
    (s.settleResponse r).mask = s.mask ∧
    (s.settleResponse r).replies = s.replies ∧
    (s.settleResponse r).link = s.link ∧
    (s.settleResponse r).sampleTimer = s.sampleTimer ∧
    (s.settleResponse r).sampleLength = s.sampleLength ∧
    (s.settleResponse r).atExpiry = s.atExpiry ∧
    (s.settleResponse r).unitCounter = s.unitCounter ∧
    (s.settleResponse r).refclkRunning = s.refclkRunning ∧
    (s.settleResponse r).resetLow = s.resetLow ∧
    (s.settleResponse r).inReset = s.inReset ∧
    (s.settleResponse r).out = s.out ∧
    (s.settleResponse r).draws = s.draws ∧
    (s.settleResponse r).pending = s.pending := by
  unfold State.settleResponse; split
  · simp
  · split_ifs <;> simp
@[simp] theorem State.settleResponse_windows (s : State) (r : FarResponse) : (s.settleResponse r).windows = s.windows := (s.settleResponse_keeps r).1
@[simp] theorem State.settleResponse_mon (s : State) (r : FarResponse) : (s.settleResponse r).mon = s.mon := (s.settleResponse_keeps r).2.1
@[simp] theorem State.settleResponse_sampleCode (s : State) (r : FarResponse) : (s.settleResponse r).sampleCode = s.sampleCode := (s.settleResponse_keeps r).2.2.1
@[simp] theorem State.settleResponse_mask (s : State) (r : FarResponse) : (s.settleResponse r).mask = s.mask := (s.settleResponse_keeps r).2.2.2.1
@[simp] theorem State.settleResponse_replies (s : State) (r : FarResponse) : (s.settleResponse r).replies = s.replies := (s.settleResponse_keeps r).2.2.2.2.1
@[simp] theorem State.settleResponse_link (s : State) (r : FarResponse) : (s.settleResponse r).link = s.link := (s.settleResponse_keeps r).2.2.2.2.2.1
@[simp] theorem State.settleResponse_sampleTimer (s : State) (r : FarResponse) : (s.settleResponse r).sampleTimer = s.sampleTimer := (s.settleResponse_keeps r).2.2.2.2.2.2.1
@[simp] theorem State.settleResponse_sampleLength (s : State) (r : FarResponse) : (s.settleResponse r).sampleLength = s.sampleLength := (s.settleResponse_keeps r).2.2.2.2.2.2.2.1
@[simp] theorem State.settleResponse_atExpiry (s : State) (r : FarResponse) : (s.settleResponse r).atExpiry = s.atExpiry := (s.settleResponse_keeps r).2.2.2.2.2.2.2.2.1
@[simp] theorem State.settleResponse_unitCounter (s : State) (r : FarResponse) : (s.settleResponse r).unitCounter = s.unitCounter := (s.settleResponse_keeps r).2.2.2.2.2.2.2.2.2.1
@[simp] theorem State.settleResponse_refclkRunning (s : State) (r : FarResponse) : (s.settleResponse r).refclkRunning = s.refclkRunning := (s.settleResponse_keeps r).2.2.2.2.2.2.2.2.2.2.1
@[simp] theorem State.settleResponse_resetLow (s : State) (r : FarResponse) : (s.settleResponse r).resetLow = s.resetLow := (s.settleResponse_keeps r).2.2.2.2.2.2.2.2.2.2.2.1
@[simp] theorem State.settleResponse_inReset (s : State) (r : FarResponse) : (s.settleResponse r).inReset = s.inReset := (s.settleResponse_keeps r).2.2.2.2.2.2.2.2.2.2.2.2.1
@[simp] theorem State.settleResponse_out (s : State) (r : FarResponse) : (s.settleResponse r).out = s.out := (s.settleResponse_keeps r).2.2.2.2.2.2.2.2.2.2.2.2.2.1
@[simp] theorem State.settleResponse_draws (s : State) (r : FarResponse) : (s.settleResponse r).draws = s.draws := (s.settleResponse_keeps r).2.2.2.2.2.2.2.2.2.2.2.2.2.2.1
@[simp] theorem State.settleResponse_pending (s : State) (r : FarResponse) : (s.settleResponse r).pending = s.pending := (s.settleResponse_keeps r).2.2.2.2.2.2.2.2.2.2.2.2.2.2.2
@[simp] theorem State.settleResponse_window (s : State) (r : FarResponse) (i : WindowIx) : (s.settleResponse r).window i = s.window i := by
  simp only [State.window, State.settleResponse_windows]

/-! What `State.respond` leaves unchanged. -/

theorem State.respond_keeps (s : State) (r : FarResponse) :
    (s.respond r).windows = s.windows ∧
    (s.respond r).mon = s.mon ∧
    (s.respond r).sampleCode = s.sampleCode ∧
    (s.respond r).mask = s.mask ∧
    (s.respond r).replies = s.replies ∧
    (s.respond r).link = s.link ∧
    (s.respond r).sampleTimer = s.sampleTimer ∧
    (s.respond r).sampleLength = s.sampleLength ∧
    (s.respond r).atExpiry = s.atExpiry ∧
    (s.respond r).unitCounter = s.unitCounter ∧
    (s.respond r).refclkRunning = s.refclkRunning ∧
    (s.respond r).resetLow = s.resetLow ∧
    (s.respond r).inReset = s.inReset ∧
    (s.respond r).draws = s.draws ∧
    (s.respond r).pending = s.pending := by
  simp [State.respond]
@[simp] theorem State.respond_windows (s : State) (r : FarResponse) : (s.respond r).windows = s.windows := (s.respond_keeps r).1
@[simp] theorem State.respond_mon (s : State) (r : FarResponse) : (s.respond r).mon = s.mon := (s.respond_keeps r).2.1
@[simp] theorem State.respond_sampleCode (s : State) (r : FarResponse) : (s.respond r).sampleCode = s.sampleCode := (s.respond_keeps r).2.2.1
@[simp] theorem State.respond_mask (s : State) (r : FarResponse) : (s.respond r).mask = s.mask := (s.respond_keeps r).2.2.2.1
@[simp] theorem State.respond_replies (s : State) (r : FarResponse) : (s.respond r).replies = s.replies := (s.respond_keeps r).2.2.2.2.1
@[simp] theorem State.respond_link (s : State) (r : FarResponse) : (s.respond r).link = s.link := (s.respond_keeps r).2.2.2.2.2.1
@[simp] theorem State.respond_sampleTimer (s : State) (r : FarResponse) : (s.respond r).sampleTimer = s.sampleTimer := (s.respond_keeps r).2.2.2.2.2.2.1
@[simp] theorem State.respond_sampleLength (s : State) (r : FarResponse) : (s.respond r).sampleLength = s.sampleLength := (s.respond_keeps r).2.2.2.2.2.2.2.1
@[simp] theorem State.respond_atExpiry (s : State) (r : FarResponse) : (s.respond r).atExpiry = s.atExpiry := (s.respond_keeps r).2.2.2.2.2.2.2.2.1
@[simp] theorem State.respond_unitCounter (s : State) (r : FarResponse) : (s.respond r).unitCounter = s.unitCounter := (s.respond_keeps r).2.2.2.2.2.2.2.2.2.1
@[simp] theorem State.respond_refclkRunning (s : State) (r : FarResponse) : (s.respond r).refclkRunning = s.refclkRunning := (s.respond_keeps r).2.2.2.2.2.2.2.2.2.2.1
@[simp] theorem State.respond_resetLow (s : State) (r : FarResponse) : (s.respond r).resetLow = s.resetLow := (s.respond_keeps r).2.2.2.2.2.2.2.2.2.2.2.1
@[simp] theorem State.respond_inReset (s : State) (r : FarResponse) : (s.respond r).inReset = s.inReset := (s.respond_keeps r).2.2.2.2.2.2.2.2.2.2.2.2.1
@[simp] theorem State.respond_draws (s : State) (r : FarResponse) : (s.respond r).draws = s.draws := (s.respond_keeps r).2.2.2.2.2.2.2.2.2.2.2.2.2.1
@[simp] theorem State.respond_pending (s : State) (r : FarResponse) : (s.respond r).pending = s.pending := (s.respond_keeps r).2.2.2.2.2.2.2.2.2.2.2.2.2.2
@[simp] theorem State.respond_window (s : State) (r : FarResponse) (i : WindowIx) : (s.respond r).window i = s.window i := by
  simp only [State.window, State.respond_windows]

/-! What `State.forwardRead` leaves unchanged. -/

theorem State.forwardRead_keeps (s : State) (r : Released) :
    (s.forwardRead r).windows = s.windows ∧
    (s.forwardRead r).mon = s.mon ∧
    (s.forwardRead r).sampleCode = s.sampleCode ∧
    (s.forwardRead r).mask = s.mask ∧
    (s.forwardRead r).hazard = s.hazard ∧
    (s.forwardRead r).contention = s.contention ∧
    (s.forwardRead r).replies = s.replies ∧
    (s.forwardRead r).notices = s.notices ∧
    (s.forwardRead r).overflow = s.overflow ∧
    (s.forwardRead r).discardMark = s.discardMark ∧
    (s.forwardRead r).link = s.link ∧
    (s.forwardRead r).sampleTimer = s.sampleTimer ∧
    (s.forwardRead r).sampleLength = s.sampleLength ∧
    (s.forwardRead r).atExpiry = s.atExpiry ∧
    (s.forwardRead r).unitCounter = s.unitCounter ∧
    (s.forwardRead r).refclkRunning = s.refclkRunning ∧
    (s.forwardRead r).resetLow = s.resetLow ∧
    (s.forwardRead r).inReset = s.inReset ∧
    (s.forwardRead r).draws = s.draws ∧
    (s.forwardRead r).pending = s.pending := by
  unfold State.forwardRead; dsimp only; split <;> simp
@[simp] theorem State.forwardRead_windows (s : State) (r : Released) : (s.forwardRead r).windows = s.windows := (s.forwardRead_keeps r).1
@[simp] theorem State.forwardRead_mon (s : State) (r : Released) : (s.forwardRead r).mon = s.mon := (s.forwardRead_keeps r).2.1
@[simp] theorem State.forwardRead_sampleCode (s : State) (r : Released) : (s.forwardRead r).sampleCode = s.sampleCode := (s.forwardRead_keeps r).2.2.1
@[simp] theorem State.forwardRead_mask (s : State) (r : Released) : (s.forwardRead r).mask = s.mask := (s.forwardRead_keeps r).2.2.2.1
@[simp] theorem State.forwardRead_hazard (s : State) (r : Released) : (s.forwardRead r).hazard = s.hazard := (s.forwardRead_keeps r).2.2.2.2.1
@[simp] theorem State.forwardRead_contention (s : State) (r : Released) : (s.forwardRead r).contention = s.contention := (s.forwardRead_keeps r).2.2.2.2.2.1
@[simp] theorem State.forwardRead_replies (s : State) (r : Released) : (s.forwardRead r).replies = s.replies := (s.forwardRead_keeps r).2.2.2.2.2.2.1
@[simp] theorem State.forwardRead_notices (s : State) (r : Released) : (s.forwardRead r).notices = s.notices := (s.forwardRead_keeps r).2.2.2.2.2.2.2.1
@[simp] theorem State.forwardRead_overflow (s : State) (r : Released) : (s.forwardRead r).overflow = s.overflow := (s.forwardRead_keeps r).2.2.2.2.2.2.2.2.1
@[simp] theorem State.forwardRead_discardMark (s : State) (r : Released) : (s.forwardRead r).discardMark = s.discardMark := (s.forwardRead_keeps r).2.2.2.2.2.2.2.2.2.1
@[simp] theorem State.forwardRead_link (s : State) (r : Released) : (s.forwardRead r).link = s.link := (s.forwardRead_keeps r).2.2.2.2.2.2.2.2.2.2.1
@[simp] theorem State.forwardRead_sampleTimer (s : State) (r : Released) : (s.forwardRead r).sampleTimer = s.sampleTimer := (s.forwardRead_keeps r).2.2.2.2.2.2.2.2.2.2.2.1
@[simp] theorem State.forwardRead_sampleLength (s : State) (r : Released) : (s.forwardRead r).sampleLength = s.sampleLength := (s.forwardRead_keeps r).2.2.2.2.2.2.2.2.2.2.2.2.1
@[simp] theorem State.forwardRead_atExpiry (s : State) (r : Released) : (s.forwardRead r).atExpiry = s.atExpiry := (s.forwardRead_keeps r).2.2.2.2.2.2.2.2.2.2.2.2.2.1
@[simp] theorem State.forwardRead_unitCounter (s : State) (r : Released) : (s.forwardRead r).unitCounter = s.unitCounter := (s.forwardRead_keeps r).2.2.2.2.2.2.2.2.2.2.2.2.2.2.1
@[simp] theorem State.forwardRead_refclkRunning (s : State) (r : Released) : (s.forwardRead r).refclkRunning = s.refclkRunning := (s.forwardRead_keeps r).2.2.2.2.2.2.2.2.2.2.2.2.2.2.2.1
@[simp] theorem State.forwardRead_resetLow (s : State) (r : Released) : (s.forwardRead r).resetLow = s.resetLow := (s.forwardRead_keeps r).2.2.2.2.2.2.2.2.2.2.2.2.2.2.2.2.1
@[simp] theorem State.forwardRead_inReset (s : State) (r : Released) : (s.forwardRead r).inReset = s.inReset := (s.forwardRead_keeps r).2.2.2.2.2.2.2.2.2.2.2.2.2.2.2.2.2.1
@[simp] theorem State.forwardRead_draws (s : State) (r : Released) : (s.forwardRead r).draws = s.draws := (s.forwardRead_keeps r).2.2.2.2.2.2.2.2.2.2.2.2.2.2.2.2.2.2.1
@[simp] theorem State.forwardRead_pending (s : State) (r : Released) : (s.forwardRead r).pending = s.pending := (s.forwardRead_keeps r).2.2.2.2.2.2.2.2.2.2.2.2.2.2.2.2.2.2.2
@[simp] theorem State.forwardRead_entry (s : State) (r : Released) (i : EntryIx) : (s.forwardRead r).entry i = s.entry i := by
  simp only [State.entry, State.forwardRead_contention]
@[simp] theorem State.forwardRead_window (s : State) (r : Released) (i : WindowIx) : (s.forwardRead r).window i = s.window i := by
  simp only [State.window, State.forwardRead_windows]

/-! What `State.writeBase` leaves unchanged. -/

theorem State.writeBase_keeps (s : State) (w : WindowIx) (v : Word32) :
    (s.writeBase w v).mon = s.mon ∧
    (s.writeBase w v).sampleCode = s.sampleCode ∧
    (s.writeBase w v).mask = s.mask ∧
    (s.writeBase w v).contexts = s.contexts ∧
    (s.writeBase w v).flight = s.flight ∧
    (s.writeBase w v).hazard = s.hazard ∧
    (s.writeBase w v).nomon = s.nomon ∧
    (s.writeBase w v).released = s.released ∧
    (s.writeBase w v).contention = s.contention ∧
    (s.writeBase w v).replies = s.replies ∧
    (s.writeBase w v).notices = s.notices ∧
    (s.writeBase w v).overflow = s.overflow ∧
    (s.writeBase w v).discardMark = s.discardMark ∧
    (s.writeBase w v).sampleTimer = s.sampleTimer ∧
    (s.writeBase w v).sampleLength = s.sampleLength ∧
    (s.writeBase w v).atExpiry = s.atExpiry ∧
    (s.writeBase w v).unitCounter = s.unitCounter ∧
    (s.writeBase w v).refclkRunning = s.refclkRunning ∧
    (s.writeBase w v).resetLow = s.resetLow ∧
    (s.writeBase w v).inReset = s.inReset ∧
    (s.writeBase w v).out = s.out ∧
    (s.writeBase w v).draws = s.draws ∧
    (s.writeBase w v).pending = s.pending := by
  unfold State.writeBase; split_ifs <;> simp
@[simp] theorem State.writeBase_mon (s : State) (w : WindowIx) (v : Word32) : (s.writeBase w v).mon = s.mon := (s.writeBase_keeps w v).1
@[simp] theorem State.writeBase_sampleCode (s : State) (w : WindowIx) (v : Word32) : (s.writeBase w v).sampleCode = s.sampleCode := (s.writeBase_keeps w v).2.1
@[simp] theorem State.writeBase_mask (s : State) (w : WindowIx) (v : Word32) : (s.writeBase w v).mask = s.mask := (s.writeBase_keeps w v).2.2.1
@[simp] theorem State.writeBase_contexts (s : State) (w : WindowIx) (v : Word32) : (s.writeBase w v).contexts = s.contexts := (s.writeBase_keeps w v).2.2.2.1
@[simp] theorem State.writeBase_flight (s : State) (w : WindowIx) (v : Word32) : (s.writeBase w v).flight = s.flight := (s.writeBase_keeps w v).2.2.2.2.1
@[simp] theorem State.writeBase_hazard (s : State) (w : WindowIx) (v : Word32) : (s.writeBase w v).hazard = s.hazard := (s.writeBase_keeps w v).2.2.2.2.2.1
@[simp] theorem State.writeBase_nomon (s : State) (w : WindowIx) (v : Word32) : (s.writeBase w v).nomon = s.nomon := (s.writeBase_keeps w v).2.2.2.2.2.2.1
@[simp] theorem State.writeBase_released (s : State) (w : WindowIx) (v : Word32) : (s.writeBase w v).released = s.released := (s.writeBase_keeps w v).2.2.2.2.2.2.2.1
@[simp] theorem State.writeBase_contention (s : State) (w : WindowIx) (v : Word32) : (s.writeBase w v).contention = s.contention := (s.writeBase_keeps w v).2.2.2.2.2.2.2.2.1
@[simp] theorem State.writeBase_replies (s : State) (w : WindowIx) (v : Word32) : (s.writeBase w v).replies = s.replies := (s.writeBase_keeps w v).2.2.2.2.2.2.2.2.2.1
@[simp] theorem State.writeBase_notices (s : State) (w : WindowIx) (v : Word32) : (s.writeBase w v).notices = s.notices := (s.writeBase_keeps w v).2.2.2.2.2.2.2.2.2.2.1
@[simp] theorem State.writeBase_overflow (s : State) (w : WindowIx) (v : Word32) : (s.writeBase w v).overflow = s.overflow := (s.writeBase_keeps w v).2.2.2.2.2.2.2.2.2.2.2.1
@[simp] theorem State.writeBase_discardMark (s : State) (w : WindowIx) (v : Word32) : (s.writeBase w v).discardMark = s.discardMark := (s.writeBase_keeps w v).2.2.2.2.2.2.2.2.2.2.2.2.1
@[simp] theorem State.writeBase_sampleTimer (s : State) (w : WindowIx) (v : Word32) : (s.writeBase w v).sampleTimer = s.sampleTimer := (s.writeBase_keeps w v).2.2.2.2.2.2.2.2.2.2.2.2.2.1
@[simp] theorem State.writeBase_sampleLength (s : State) (w : WindowIx) (v : Word32) : (s.writeBase w v).sampleLength = s.sampleLength := (s.writeBase_keeps w v).2.2.2.2.2.2.2.2.2.2.2.2.2.2.1
@[simp] theorem State.writeBase_atExpiry (s : State) (w : WindowIx) (v : Word32) : (s.writeBase w v).atExpiry = s.atExpiry := (s.writeBase_keeps w v).2.2.2.2.2.2.2.2.2.2.2.2.2.2.2.1
@[simp] theorem State.writeBase_unitCounter (s : State) (w : WindowIx) (v : Word32) : (s.writeBase w v).unitCounter = s.unitCounter := (s.writeBase_keeps w v).2.2.2.2.2.2.2.2.2.2.2.2.2.2.2.2.1
@[simp] theorem State.writeBase_refclkRunning (s : State) (w : WindowIx) (v : Word32) : (s.writeBase w v).refclkRunning = s.refclkRunning := (s.writeBase_keeps w v).2.2.2.2.2.2.2.2.2.2.2.2.2.2.2.2.2.1
@[simp] theorem State.writeBase_resetLow (s : State) (w : WindowIx) (v : Word32) : (s.writeBase w v).resetLow = s.resetLow := (s.writeBase_keeps w v).2.2.2.2.2.2.2.2.2.2.2.2.2.2.2.2.2.2.1
@[simp] theorem State.writeBase_inReset (s : State) (w : WindowIx) (v : Word32) : (s.writeBase w v).inReset = s.inReset := (s.writeBase_keeps w v).2.2.2.2.2.2.2.2.2.2.2.2.2.2.2.2.2.2.2.1
@[simp] theorem State.writeBase_out (s : State) (w : WindowIx) (v : Word32) : (s.writeBase w v).out = s.out := (s.writeBase_keeps w v).2.2.2.2.2.2.2.2.2.2.2.2.2.2.2.2.2.2.2.2.1
@[simp] theorem State.writeBase_draws (s : State) (w : WindowIx) (v : Word32) : (s.writeBase w v).draws = s.draws := (s.writeBase_keeps w v).2.2.2.2.2.2.2.2.2.2.2.2.2.2.2.2.2.2.2.2.2.1
@[simp] theorem State.writeBase_pending (s : State) (w : WindowIx) (v : Word32) : (s.writeBase w v).pending = s.pending := (s.writeBase_keeps w v).2.2.2.2.2.2.2.2.2.2.2.2.2.2.2.2.2.2.2.2.2.2
@[simp] theorem State.writeBase_ctx (s : State) (w : WindowIx) (v : Word32) (i : Master) : (s.writeBase w v).ctx i = s.ctx i := by
  simp only [State.ctx, State.writeBase_contexts]
@[simp] theorem State.writeBase_entry (s : State) (w : WindowIx) (v : Word32) (i : EntryIx) : (s.writeBase w v).entry i = s.entry i := by
  simp only [State.entry, State.writeBase_contention]

/-! What `State.writeShape` leaves unchanged. -/

theorem State.writeShape_keeps (s : State) (w : WindowIx) (v : Word32) :
    (s.writeShape w v).mon = s.mon ∧
    (s.writeShape w v).sampleCode = s.sampleCode ∧
    (s.writeShape w v).mask = s.mask ∧
    (s.writeShape w v).contexts = s.contexts ∧
    (s.writeShape w v).flight = s.flight ∧
    (s.writeShape w v).hazard = s.hazard ∧
    (s.writeShape w v).nomon = s.nomon ∧
    (s.writeShape w v).released = s.released ∧
    (s.writeShape w v).contention = s.contention ∧
    (s.writeShape w v).replies = s.replies ∧
    (s.writeShape w v).notices = s.notices ∧
    (s.writeShape w v).overflow = s.overflow ∧
    (s.writeShape w v).discardMark = s.discardMark ∧
    (s.writeShape w v).sampleTimer = s.sampleTimer ∧
    (s.writeShape w v).sampleLength = s.sampleLength ∧
    (s.writeShape w v).atExpiry = s.atExpiry ∧
    (s.writeShape w v).unitCounter = s.unitCounter ∧
    (s.writeShape w v).refclkRunning = s.refclkRunning ∧
    (s.writeShape w v).resetLow = s.resetLow ∧
    (s.writeShape w v).inReset = s.inReset ∧
    (s.writeShape w v).out = s.out ∧
    (s.writeShape w v).draws = s.draws ∧
    (s.writeShape w v).pending = s.pending := by
  unfold State.writeShape; split_ifs <;> simp
@[simp] theorem State.writeShape_mon (s : State) (w : WindowIx) (v : Word32) : (s.writeShape w v).mon = s.mon := (s.writeShape_keeps w v).1
@[simp] theorem State.writeShape_sampleCode (s : State) (w : WindowIx) (v : Word32) : (s.writeShape w v).sampleCode = s.sampleCode := (s.writeShape_keeps w v).2.1
@[simp] theorem State.writeShape_mask (s : State) (w : WindowIx) (v : Word32) : (s.writeShape w v).mask = s.mask := (s.writeShape_keeps w v).2.2.1
@[simp] theorem State.writeShape_contexts (s : State) (w : WindowIx) (v : Word32) : (s.writeShape w v).contexts = s.contexts := (s.writeShape_keeps w v).2.2.2.1
@[simp] theorem State.writeShape_flight (s : State) (w : WindowIx) (v : Word32) : (s.writeShape w v).flight = s.flight := (s.writeShape_keeps w v).2.2.2.2.1
@[simp] theorem State.writeShape_hazard (s : State) (w : WindowIx) (v : Word32) : (s.writeShape w v).hazard = s.hazard := (s.writeShape_keeps w v).2.2.2.2.2.1
@[simp] theorem State.writeShape_nomon (s : State) (w : WindowIx) (v : Word32) : (s.writeShape w v).nomon = s.nomon := (s.writeShape_keeps w v).2.2.2.2.2.2.1
@[simp] theorem State.writeShape_released (s : State) (w : WindowIx) (v : Word32) : (s.writeShape w v).released = s.released := (s.writeShape_keeps w v).2.2.2.2.2.2.2.1
@[simp] theorem State.writeShape_contention (s : State) (w : WindowIx) (v : Word32) : (s.writeShape w v).contention = s.contention := (s.writeShape_keeps w v).2.2.2.2.2.2.2.2.1
@[simp] theorem State.writeShape_replies (s : State) (w : WindowIx) (v : Word32) : (s.writeShape w v).replies = s.replies := (s.writeShape_keeps w v).2.2.2.2.2.2.2.2.2.1
@[simp] theorem State.writeShape_notices (s : State) (w : WindowIx) (v : Word32) : (s.writeShape w v).notices = s.notices := (s.writeShape_keeps w v).2.2.2.2.2.2.2.2.2.2.1
@[simp] theorem State.writeShape_overflow (s : State) (w : WindowIx) (v : Word32) : (s.writeShape w v).overflow = s.overflow := (s.writeShape_keeps w v).2.2.2.2.2.2.2.2.2.2.2.1
@[simp] theorem State.writeShape_discardMark (s : State) (w : WindowIx) (v : Word32) : (s.writeShape w v).discardMark = s.discardMark := (s.writeShape_keeps w v).2.2.2.2.2.2.2.2.2.2.2.2.1
@[simp] theorem State.writeShape_sampleTimer (s : State) (w : WindowIx) (v : Word32) : (s.writeShape w v).sampleTimer = s.sampleTimer := (s.writeShape_keeps w v).2.2.2.2.2.2.2.2.2.2.2.2.2.1
@[simp] theorem State.writeShape_sampleLength (s : State) (w : WindowIx) (v : Word32) : (s.writeShape w v).sampleLength = s.sampleLength := (s.writeShape_keeps w v).2.2.2.2.2.2.2.2.2.2.2.2.2.2.1
@[simp] theorem State.writeShape_atExpiry (s : State) (w : WindowIx) (v : Word32) : (s.writeShape w v).atExpiry = s.atExpiry := (s.writeShape_keeps w v).2.2.2.2.2.2.2.2.2.2.2.2.2.2.2.1
@[simp] theorem State.writeShape_unitCounter (s : State) (w : WindowIx) (v : Word32) : (s.writeShape w v).unitCounter = s.unitCounter := (s.writeShape_keeps w v).2.2.2.2.2.2.2.2.2.2.2.2.2.2.2.2.1
@[simp] theorem State.writeShape_refclkRunning (s : State) (w : WindowIx) (v : Word32) : (s.writeShape w v).refclkRunning = s.refclkRunning := (s.writeShape_keeps w v).2.2.2.2.2.2.2.2.2.2.2.2.2.2.2.2.2.1
@[simp] theorem State.writeShape_resetLow (s : State) (w : WindowIx) (v : Word32) : (s.writeShape w v).resetLow = s.resetLow := (s.writeShape_keeps w v).2.2.2.2.2.2.2.2.2.2.2.2.2.2.2.2.2.2.1
@[simp] theorem State.writeShape_inReset (s : State) (w : WindowIx) (v : Word32) : (s.writeShape w v).inReset = s.inReset := (s.writeShape_keeps w v).2.2.2.2.2.2.2.2.2.2.2.2.2.2.2.2.2.2.2.1
@[simp] theorem State.writeShape_out (s : State) (w : WindowIx) (v : Word32) : (s.writeShape w v).out = s.out := (s.writeShape_keeps w v).2.2.2.2.2.2.2.2.2.2.2.2.2.2.2.2.2.2.2.2.1
@[simp] theorem State.writeShape_draws (s : State) (w : WindowIx) (v : Word32) : (s.writeShape w v).draws = s.draws := (s.writeShape_keeps w v).2.2.2.2.2.2.2.2.2.2.2.2.2.2.2.2.2.2.2.2.2.1
@[simp] theorem State.writeShape_pending (s : State) (w : WindowIx) (v : Word32) : (s.writeShape w v).pending = s.pending := (s.writeShape_keeps w v).2.2.2.2.2.2.2.2.2.2.2.2.2.2.2.2.2.2.2.2.2.2
@[simp] theorem State.writeShape_ctx (s : State) (w : WindowIx) (v : Word32) (i : Master) : (s.writeShape w v).ctx i = s.ctx i := by
  simp only [State.ctx, State.writeShape_contexts]
@[simp] theorem State.writeShape_entry (s : State) (w : WindowIx) (v : Word32) (i : EntryIx) : (s.writeShape w v).entry i = s.entry i := by
  simp only [State.entry, State.writeShape_contention]

/-! What `State.writeLimits` leaves unchanged. -/

theorem State.writeLimits_keeps (s : State) (w : WindowIx) (v : Word32) :
    (s.writeLimits w v).mon = s.mon ∧
    (s.writeLimits w v).sampleCode = s.sampleCode ∧
    (s.writeLimits w v).mask = s.mask ∧
    (s.writeLimits w v).contexts = s.contexts ∧
    (s.writeLimits w v).flight = s.flight ∧
    (s.writeLimits w v).hazard = s.hazard ∧
    (s.writeLimits w v).nomon = s.nomon ∧
    (s.writeLimits w v).released = s.released ∧
    (s.writeLimits w v).contention = s.contention ∧
    (s.writeLimits w v).replies = s.replies ∧
    (s.writeLimits w v).notices = s.notices ∧
    (s.writeLimits w v).overflow = s.overflow ∧
    (s.writeLimits w v).discardMark = s.discardMark ∧
    (s.writeLimits w v).sampleTimer = s.sampleTimer ∧
    (s.writeLimits w v).sampleLength = s.sampleLength ∧
    (s.writeLimits w v).atExpiry = s.atExpiry ∧
    (s.writeLimits w v).unitCounter = s.unitCounter ∧
    (s.writeLimits w v).refclkRunning = s.refclkRunning ∧
    (s.writeLimits w v).resetLow = s.resetLow ∧
    (s.writeLimits w v).inReset = s.inReset ∧
    (s.writeLimits w v).out = s.out ∧
    (s.writeLimits w v).draws = s.draws ∧
    (s.writeLimits w v).pending = s.pending := by
  unfold State.writeLimits; split_ifs <;> simp
@[simp] theorem State.writeLimits_mon (s : State) (w : WindowIx) (v : Word32) : (s.writeLimits w v).mon = s.mon := (s.writeLimits_keeps w v).1
@[simp] theorem State.writeLimits_sampleCode (s : State) (w : WindowIx) (v : Word32) : (s.writeLimits w v).sampleCode = s.sampleCode := (s.writeLimits_keeps w v).2.1
@[simp] theorem State.writeLimits_mask (s : State) (w : WindowIx) (v : Word32) : (s.writeLimits w v).mask = s.mask := (s.writeLimits_keeps w v).2.2.1
@[simp] theorem State.writeLimits_contexts (s : State) (w : WindowIx) (v : Word32) : (s.writeLimits w v).contexts = s.contexts := (s.writeLimits_keeps w v).2.2.2.1
@[simp] theorem State.writeLimits_flight (s : State) (w : WindowIx) (v : Word32) : (s.writeLimits w v).flight = s.flight := (s.writeLimits_keeps w v).2.2.2.2.1
@[simp] theorem State.writeLimits_hazard (s : State) (w : WindowIx) (v : Word32) : (s.writeLimits w v).hazard = s.hazard := (s.writeLimits_keeps w v).2.2.2.2.2.1
@[simp] theorem State.writeLimits_nomon (s : State) (w : WindowIx) (v : Word32) : (s.writeLimits w v).nomon = s.nomon := (s.writeLimits_keeps w v).2.2.2.2.2.2.1
@[simp] theorem State.writeLimits_released (s : State) (w : WindowIx) (v : Word32) : (s.writeLimits w v).released = s.released := (s.writeLimits_keeps w v).2.2.2.2.2.2.2.1
@[simp] theorem State.writeLimits_contention (s : State) (w : WindowIx) (v : Word32) : (s.writeLimits w v).contention = s.contention := (s.writeLimits_keeps w v).2.2.2.2.2.2.2.2.1
@[simp] theorem State.writeLimits_replies (s : State) (w : WindowIx) (v : Word32) : (s.writeLimits w v).replies = s.replies := (s.writeLimits_keeps w v).2.2.2.2.2.2.2.2.2.1
@[simp] theorem State.writeLimits_notices (s : State) (w : WindowIx) (v : Word32) : (s.writeLimits w v).notices = s.notices := (s.writeLimits_keeps w v).2.2.2.2.2.2.2.2.2.2.1
@[simp] theorem State.writeLimits_overflow (s : State) (w : WindowIx) (v : Word32) : (s.writeLimits w v).overflow = s.overflow := (s.writeLimits_keeps w v).2.2.2.2.2.2.2.2.2.2.2.1
@[simp] theorem State.writeLimits_discardMark (s : State) (w : WindowIx) (v : Word32) : (s.writeLimits w v).discardMark = s.discardMark := (s.writeLimits_keeps w v).2.2.2.2.2.2.2.2.2.2.2.2.1
@[simp] theorem State.writeLimits_sampleTimer (s : State) (w : WindowIx) (v : Word32) : (s.writeLimits w v).sampleTimer = s.sampleTimer := (s.writeLimits_keeps w v).2.2.2.2.2.2.2.2.2.2.2.2.2.1
@[simp] theorem State.writeLimits_sampleLength (s : State) (w : WindowIx) (v : Word32) : (s.writeLimits w v).sampleLength = s.sampleLength := (s.writeLimits_keeps w v).2.2.2.2.2.2.2.2.2.2.2.2.2.2.1
@[simp] theorem State.writeLimits_atExpiry (s : State) (w : WindowIx) (v : Word32) : (s.writeLimits w v).atExpiry = s.atExpiry := (s.writeLimits_keeps w v).2.2.2.2.2.2.2.2.2.2.2.2.2.2.2.1
@[simp] theorem State.writeLimits_unitCounter (s : State) (w : WindowIx) (v : Word32) : (s.writeLimits w v).unitCounter = s.unitCounter := (s.writeLimits_keeps w v).2.2.2.2.2.2.2.2.2.2.2.2.2.2.2.2.1
@[simp] theorem State.writeLimits_refclkRunning (s : State) (w : WindowIx) (v : Word32) : (s.writeLimits w v).refclkRunning = s.refclkRunning := (s.writeLimits_keeps w v).2.2.2.2.2.2.2.2.2.2.2.2.2.2.2.2.2.1
@[simp] theorem State.writeLimits_resetLow (s : State) (w : WindowIx) (v : Word32) : (s.writeLimits w v).resetLow = s.resetLow := (s.writeLimits_keeps w v).2.2.2.2.2.2.2.2.2.2.2.2.2.2.2.2.2.2.1
@[simp] theorem State.writeLimits_inReset (s : State) (w : WindowIx) (v : Word32) : (s.writeLimits w v).inReset = s.inReset := (s.writeLimits_keeps w v).2.2.2.2.2.2.2.2.2.2.2.2.2.2.2.2.2.2.2.1
@[simp] theorem State.writeLimits_out (s : State) (w : WindowIx) (v : Word32) : (s.writeLimits w v).out = s.out := (s.writeLimits_keeps w v).2.2.2.2.2.2.2.2.2.2.2.2.2.2.2.2.2.2.2.2.1
@[simp] theorem State.writeLimits_draws (s : State) (w : WindowIx) (v : Word32) : (s.writeLimits w v).draws = s.draws := (s.writeLimits_keeps w v).2.2.2.2.2.2.2.2.2.2.2.2.2.2.2.2.2.2.2.2.2.1
@[simp] theorem State.writeLimits_pending (s : State) (w : WindowIx) (v : Word32) : (s.writeLimits w v).pending = s.pending := (s.writeLimits_keeps w v).2.2.2.2.2.2.2.2.2.2.2.2.2.2.2.2.2.2.2.2.2.2
@[simp] theorem State.writeLimits_ctx (s : State) (w : WindowIx) (v : Word32) (i : Master) : (s.writeLimits w v).ctx i = s.ctx i := by
  simp only [State.ctx, State.writeLimits_contexts]
@[simp] theorem State.writeLimits_entry (s : State) (w : WindowIx) (v : Word32) (i : EntryIx) : (s.writeLimits w v).entry i = s.entry i := by
  simp only [State.entry, State.writeLimits_contention]

/-! What `State.writeEnable` leaves unchanged. -/

theorem State.writeEnable_keeps (s : State) (w : WindowIx) (v : Word32) :
    (s.writeEnable w v).mon = s.mon ∧
    (s.writeEnable w v).sampleCode = s.sampleCode ∧
    (s.writeEnable w v).mask = s.mask ∧
    (s.writeEnable w v).nomon = s.nomon ∧
    (s.writeEnable w v).replies = s.replies ∧
    (s.writeEnable w v).notices = s.notices ∧
    (s.writeEnable w v).overflow = s.overflow ∧
    (s.writeEnable w v).discardMark = s.discardMark ∧
    (s.writeEnable w v).sampleTimer = s.sampleTimer ∧
    (s.writeEnable w v).sampleLength = s.sampleLength ∧
    (s.writeEnable w v).atExpiry = s.atExpiry ∧
    (s.writeEnable w v).unitCounter = s.unitCounter ∧
    (s.writeEnable w v).refclkRunning = s.refclkRunning ∧
    (s.writeEnable w v).resetLow = s.resetLow ∧
    (s.writeEnable w v).inReset = s.inReset ∧
    (s.writeEnable w v).out = s.out ∧
    (s.writeEnable w v).draws = s.draws ∧
    (s.writeEnable w v).pending = s.pending := by
  unfold State.writeEnable; dsimp only; split_ifs <;> simp
@[simp] theorem State.writeEnable_mon (s : State) (w : WindowIx) (v : Word32) : (s.writeEnable w v).mon = s.mon := (s.writeEnable_keeps w v).1
@[simp] theorem State.writeEnable_sampleCode (s : State) (w : WindowIx) (v : Word32) : (s.writeEnable w v).sampleCode = s.sampleCode := (s.writeEnable_keeps w v).2.1
@[simp] theorem State.writeEnable_mask (s : State) (w : WindowIx) (v : Word32) : (s.writeEnable w v).mask = s.mask := (s.writeEnable_keeps w v).2.2.1
@[simp] theorem State.writeEnable_nomon (s : State) (w : WindowIx) (v : Word32) : (s.writeEnable w v).nomon = s.nomon := (s.writeEnable_keeps w v).2.2.2.1
@[simp] theorem State.writeEnable_replies (s : State) (w : WindowIx) (v : Word32) : (s.writeEnable w v).replies = s.replies := (s.writeEnable_keeps w v).2.2.2.2.1
@[simp] theorem State.writeEnable_notices (s : State) (w : WindowIx) (v : Word32) : (s.writeEnable w v).notices = s.notices := (s.writeEnable_keeps w v).2.2.2.2.2.1
@[simp] theorem State.writeEnable_overflow (s : State) (w : WindowIx) (v : Word32) : (s.writeEnable w v).overflow = s.overflow := (s.writeEnable_keeps w v).2.2.2.2.2.2.1
@[simp] theorem State.writeEnable_discardMark (s : State) (w : WindowIx) (v : Word32) : (s.writeEnable w v).discardMark = s.discardMark := (s.writeEnable_keeps w v).2.2.2.2.2.2.2.1
@[simp] theorem State.writeEnable_sampleTimer (s : State) (w : WindowIx) (v : Word32) : (s.writeEnable w v).sampleTimer = s.sampleTimer := (s.writeEnable_keeps w v).2.2.2.2.2.2.2.2.1
@[simp] theorem State.writeEnable_sampleLength (s : State) (w : WindowIx) (v : Word32) : (s.writeEnable w v).sampleLength = s.sampleLength := (s.writeEnable_keeps w v).2.2.2.2.2.2.2.2.2.1
@[simp] theorem State.writeEnable_atExpiry (s : State) (w : WindowIx) (v : Word32) : (s.writeEnable w v).atExpiry = s.atExpiry := (s.writeEnable_keeps w v).2.2.2.2.2.2.2.2.2.2.1
@[simp] theorem State.writeEnable_unitCounter (s : State) (w : WindowIx) (v : Word32) : (s.writeEnable w v).unitCounter = s.unitCounter := (s.writeEnable_keeps w v).2.2.2.2.2.2.2.2.2.2.2.1
@[simp] theorem State.writeEnable_refclkRunning (s : State) (w : WindowIx) (v : Word32) : (s.writeEnable w v).refclkRunning = s.refclkRunning := (s.writeEnable_keeps w v).2.2.2.2.2.2.2.2.2.2.2.2.1
@[simp] theorem State.writeEnable_resetLow (s : State) (w : WindowIx) (v : Word32) : (s.writeEnable w v).resetLow = s.resetLow := (s.writeEnable_keeps w v).2.2.2.2.2.2.2.2.2.2.2.2.2.1
@[simp] theorem State.writeEnable_inReset (s : State) (w : WindowIx) (v : Word32) : (s.writeEnable w v).inReset = s.inReset := (s.writeEnable_keeps w v).2.2.2.2.2.2.2.2.2.2.2.2.2.2.1
@[simp] theorem State.writeEnable_out (s : State) (w : WindowIx) (v : Word32) : (s.writeEnable w v).out = s.out := (s.writeEnable_keeps w v).2.2.2.2.2.2.2.2.2.2.2.2.2.2.2.1
@[simp] theorem State.writeEnable_draws (s : State) (w : WindowIx) (v : Word32) : (s.writeEnable w v).draws = s.draws := (s.writeEnable_keeps w v).2.2.2.2.2.2.2.2.2.2.2.2.2.2.2.2.1
@[simp] theorem State.writeEnable_pending (s : State) (w : WindowIx) (v : Word32) : (s.writeEnable w v).pending = s.pending := (s.writeEnable_keeps w v).2.2.2.2.2.2.2.2.2.2.2.2.2.2.2.2.2

/-! What `State.writeControl` leaves unchanged. -/

theorem State.writeControl_keeps (s : State) (v : Word32) :
    (s.writeControl v).windows = s.windows ∧
    (s.writeControl v).nomon = s.nomon ∧
    (s.writeControl v).replies = s.replies ∧
    (s.writeControl v).notices = s.notices ∧
    (s.writeControl v).overflow = s.overflow ∧
    (s.writeControl v).discardMark = s.discardMark ∧
    (s.writeControl v).link = s.link ∧
    (s.writeControl v).sampleTimer = s.sampleTimer ∧
    (s.writeControl v).atExpiry = s.atExpiry ∧
    (s.writeControl v).unitCounter = s.unitCounter ∧
    (s.writeControl v).refclkRunning = s.refclkRunning ∧
    (s.writeControl v).resetLow = s.resetLow ∧
    (s.writeControl v).inReset = s.inReset ∧
    (s.writeControl v).out = s.out ∧
    (s.writeControl v).draws = s.draws ∧
    (s.writeControl v).pending = s.pending := by
  unfold State.writeControl; dsimp only; split_ifs <;> simp
@[simp] theorem State.writeControl_windows (s : State) (v : Word32) : (s.writeControl v).windows = s.windows := (s.writeControl_keeps v).1
@[simp] theorem State.writeControl_nomon (s : State) (v : Word32) : (s.writeControl v).nomon = s.nomon := (s.writeControl_keeps v).2.1
@[simp] theorem State.writeControl_replies (s : State) (v : Word32) : (s.writeControl v).replies = s.replies := (s.writeControl_keeps v).2.2.1
@[simp] theorem State.writeControl_notices (s : State) (v : Word32) : (s.writeControl v).notices = s.notices := (s.writeControl_keeps v).2.2.2.1
@[simp] theorem State.writeControl_overflow (s : State) (v : Word32) : (s.writeControl v).overflow = s.overflow := (s.writeControl_keeps v).2.2.2.2.1
@[simp] theorem State.writeControl_discardMark (s : State) (v : Word32) : (s.writeControl v).discardMark = s.discardMark := (s.writeControl_keeps v).2.2.2.2.2.1
@[simp] theorem State.writeControl_link (s : State) (v : Word32) : (s.writeControl v).link = s.link := (s.writeControl_keeps v).2.2.2.2.2.2.1
@[simp] theorem State.writeControl_sampleTimer (s : State) (v : Word32) : (s.writeControl v).sampleTimer = s.sampleTimer := (s.writeControl_keeps v).2.2.2.2.2.2.2.1
@[simp] theorem State.writeControl_atExpiry (s : State) (v : Word32) : (s.writeControl v).atExpiry = s.atExpiry := (s.writeControl_keeps v).2.2.2.2.2.2.2.2.1
@[simp] theorem State.writeControl_unitCounter (s : State) (v : Word32) : (s.writeControl v).unitCounter = s.unitCounter := (s.writeControl_keeps v).2.2.2.2.2.2.2.2.2.1
@[simp] theorem State.writeControl_refclkRunning (s : State) (v : Word32) : (s.writeControl v).refclkRunning = s.refclkRunning := (s.writeControl_keeps v).2.2.2.2.2.2.2.2.2.2.1
@[simp] theorem State.writeControl_resetLow (s : State) (v : Word32) : (s.writeControl v).resetLow = s.resetLow := (s.writeControl_keeps v).2.2.2.2.2.2.2.2.2.2.2.1
@[simp] theorem State.writeControl_inReset (s : State) (v : Word32) : (s.writeControl v).inReset = s.inReset := (s.writeControl_keeps v).2.2.2.2.2.2.2.2.2.2.2.2.1
@[simp] theorem State.writeControl_out (s : State) (v : Word32) : (s.writeControl v).out = s.out := (s.writeControl_keeps v).2.2.2.2.2.2.2.2.2.2.2.2.2.1
@[simp] theorem State.writeControl_draws (s : State) (v : Word32) : (s.writeControl v).draws = s.draws := (s.writeControl_keeps v).2.2.2.2.2.2.2.2.2.2.2.2.2.2.1
@[simp] theorem State.writeControl_pending (s : State) (v : Word32) : (s.writeControl v).pending = s.pending := (s.writeControl_keeps v).2.2.2.2.2.2.2.2.2.2.2.2.2.2.2
@[simp] theorem State.writeControl_window (s : State) (v : Word32) (i : WindowIx) : (s.writeControl v).window i = s.window i := by
  simp only [State.window, State.writeControl_windows]

/-! What `State.writeRegister` leaves unchanged. -/

theorem State.writeRegister_keeps (s : State) (a : Byte) (v : Word32) :
    (s.writeRegister a v).nomon = s.nomon ∧
    (s.writeRegister a v).replies = s.replies ∧
    (s.writeRegister a v).notices = s.notices ∧
    (s.writeRegister a v).overflow = s.overflow ∧
    (s.writeRegister a v).discardMark = s.discardMark ∧
    (s.writeRegister a v).sampleTimer = s.sampleTimer ∧
    (s.writeRegister a v).atExpiry = s.atExpiry ∧
    (s.writeRegister a v).unitCounter = s.unitCounter ∧
    (s.writeRegister a v).refclkRunning = s.refclkRunning ∧
    (s.writeRegister a v).resetLow = s.resetLow ∧
    (s.writeRegister a v).inReset = s.inReset ∧
    (s.writeRegister a v).out = s.out ∧
    (s.writeRegister a v).draws = s.draws ∧
    (s.writeRegister a v).pending = s.pending := by
  unfold State.writeRegister; split <;> simp
@[simp] theorem State.writeRegister_nomon (s : State) (a : Byte) (v : Word32) : (s.writeRegister a v).nomon = s.nomon := (s.writeRegister_keeps a v).1
@[simp] theorem State.writeRegister_replies (s : State) (a : Byte) (v : Word32) : (s.writeRegister a v).replies = s.replies := (s.writeRegister_keeps a v).2.1
@[simp] theorem State.writeRegister_notices (s : State) (a : Byte) (v : Word32) : (s.writeRegister a v).notices = s.notices := (s.writeRegister_keeps a v).2.2.1
@[simp] theorem State.writeRegister_overflow (s : State) (a : Byte) (v : Word32) : (s.writeRegister a v).overflow = s.overflow := (s.writeRegister_keeps a v).2.2.2.1
@[simp] theorem State.writeRegister_discardMark (s : State) (a : Byte) (v : Word32) : (s.writeRegister a v).discardMark = s.discardMark := (s.writeRegister_keeps a v).2.2.2.2.1
@[simp] theorem State.writeRegister_sampleTimer (s : State) (a : Byte) (v : Word32) : (s.writeRegister a v).sampleTimer = s.sampleTimer := (s.writeRegister_keeps a v).2.2.2.2.2.1
@[simp] theorem State.writeRegister_atExpiry (s : State) (a : Byte) (v : Word32) : (s.writeRegister a v).atExpiry = s.atExpiry := (s.writeRegister_keeps a v).2.2.2.2.2.2.1
@[simp] theorem State.writeRegister_unitCounter (s : State) (a : Byte) (v : Word32) : (s.writeRegister a v).unitCounter = s.unitCounter := (s.writeRegister_keeps a v).2.2.2.2.2.2.2.1
@[simp] theorem State.writeRegister_refclkRunning (s : State) (a : Byte) (v : Word32) : (s.writeRegister a v).refclkRunning = s.refclkRunning := (s.writeRegister_keeps a v).2.2.2.2.2.2.2.2.1
@[simp] theorem State.writeRegister_resetLow (s : State) (a : Byte) (v : Word32) : (s.writeRegister a v).resetLow = s.resetLow := (s.writeRegister_keeps a v).2.2.2.2.2.2.2.2.2.1
@[simp] theorem State.writeRegister_inReset (s : State) (a : Byte) (v : Word32) : (s.writeRegister a v).inReset = s.inReset := (s.writeRegister_keeps a v).2.2.2.2.2.2.2.2.2.2.1
@[simp] theorem State.writeRegister_out (s : State) (a : Byte) (v : Word32) : (s.writeRegister a v).out = s.out := (s.writeRegister_keeps a v).2.2.2.2.2.2.2.2.2.2.2.1
@[simp] theorem State.writeRegister_draws (s : State) (a : Byte) (v : Word32) : (s.writeRegister a v).draws = s.draws := (s.writeRegister_keeps a v).2.2.2.2.2.2.2.2.2.2.2.2.1
@[simp] theorem State.writeRegister_pending (s : State) (a : Byte) (v : Word32) : (s.writeRegister a v).pending = s.pending := (s.writeRegister_keeps a v).2.2.2.2.2.2.2.2.2.2.2.2.2

/-! What `State.releaseHolder` leaves unchanged. -/

theorem State.releaseHolder_keeps (s : State) (x : Byte) :
    (s.releaseHolder x).windows = s.windows ∧
    (s.releaseHolder x).mon = s.mon ∧
    (s.releaseHolder x).sampleCode = s.sampleCode ∧
    (s.releaseHolder x).mask = s.mask ∧
    (s.releaseHolder x).nomon = s.nomon ∧
    (s.releaseHolder x).replies = s.replies ∧
    (s.releaseHolder x).sampleTimer = s.sampleTimer ∧
    (s.releaseHolder x).sampleLength = s.sampleLength ∧
    (s.releaseHolder x).atExpiry = s.atExpiry ∧
    (s.releaseHolder x).unitCounter = s.unitCounter ∧
    (s.releaseHolder x).refclkRunning = s.refclkRunning ∧
    (s.releaseHolder x).resetLow = s.resetLow ∧
    (s.releaseHolder x).inReset = s.inReset ∧
    (s.releaseHolder x).out = s.out ∧
    (s.releaseHolder x).draws = s.draws ∧
    (s.releaseHolder x).pending = s.pending := by
  unfold State.releaseHolder; split_ifs <;> simp
@[simp] theorem State.releaseHolder_windows (s : State) (x : Byte) : (s.releaseHolder x).windows = s.windows := (s.releaseHolder_keeps x).1
@[simp] theorem State.releaseHolder_mon (s : State) (x : Byte) : (s.releaseHolder x).mon = s.mon := (s.releaseHolder_keeps x).2.1
@[simp] theorem State.releaseHolder_sampleCode (s : State) (x : Byte) : (s.releaseHolder x).sampleCode = s.sampleCode := (s.releaseHolder_keeps x).2.2.1
@[simp] theorem State.releaseHolder_mask (s : State) (x : Byte) : (s.releaseHolder x).mask = s.mask := (s.releaseHolder_keeps x).2.2.2.1
@[simp] theorem State.releaseHolder_nomon (s : State) (x : Byte) : (s.releaseHolder x).nomon = s.nomon := (s.releaseHolder_keeps x).2.2.2.2.1
@[simp] theorem State.releaseHolder_replies (s : State) (x : Byte) : (s.releaseHolder x).replies = s.replies := (s.releaseHolder_keeps x).2.2.2.2.2.1
@[simp] theorem State.releaseHolder_sampleTimer (s : State) (x : Byte) : (s.releaseHolder x).sampleTimer = s.sampleTimer := (s.releaseHolder_keeps x).2.2.2.2.2.2.1
@[simp] theorem State.releaseHolder_sampleLength (s : State) (x : Byte) : (s.releaseHolder x).sampleLength = s.sampleLength := (s.releaseHolder_keeps x).2.2.2.2.2.2.2.1
@[simp] theorem State.releaseHolder_atExpiry (s : State) (x : Byte) : (s.releaseHolder x).atExpiry = s.atExpiry := (s.releaseHolder_keeps x).2.2.2.2.2.2.2.2.1
@[simp] theorem State.releaseHolder_unitCounter (s : State) (x : Byte) : (s.releaseHolder x).unitCounter = s.unitCounter := (s.releaseHolder_keeps x).2.2.2.2.2.2.2.2.2.1
@[simp] theorem State.releaseHolder_refclkRunning (s : State) (x : Byte) : (s.releaseHolder x).refclkRunning = s.refclkRunning := (s.releaseHolder_keeps x).2.2.2.2.2.2.2.2.2.2.1
@[simp] theorem State.releaseHolder_resetLow (s : State) (x : Byte) : (s.releaseHolder x).resetLow = s.resetLow := (s.releaseHolder_keeps x).2.2.2.2.2.2.2.2.2.2.2.1
@[simp] theorem State.releaseHolder_inReset (s : State) (x : Byte) : (s.releaseHolder x).inReset = s.inReset := (s.releaseHolder_keeps x).2.2.2.2.2.2.2.2.2.2.2.2.1
@[simp] theorem State.releaseHolder_out (s : State) (x : Byte) : (s.releaseHolder x).out = s.out := (s.releaseHolder_keeps x).2.2.2.2.2.2.2.2.2.2.2.2.2.1
@[simp] theorem State.releaseHolder_draws (s : State) (x : Byte) : (s.releaseHolder x).draws = s.draws := (s.releaseHolder_keeps x).2.2.2.2.2.2.2.2.2.2.2.2.2.2.1
@[simp] theorem State.releaseHolder_pending (s : State) (x : Byte) : (s.releaseHolder x).pending = s.pending := (s.releaseHolder_keeps x).2.2.2.2.2.2.2.2.2.2.2.2.2.2.2
@[simp] theorem State.releaseHolder_window (s : State) (x : Byte) (i : WindowIx) : (s.releaseHolder x).window i = s.window i := by
  simp only [State.window, State.releaseHolder_windows]

/-! What `State.returns` leaves unchanged. -/

@[simp] theorem State.returns_windows (s : State) (l : List Byte) : (s.returns l).windows = s.windows := rfl
@[simp] theorem State.returns_mon (s : State) (l : List Byte) : (s.returns l).mon = s.mon := rfl
@[simp] theorem State.returns_sampleCode (s : State) (l : List Byte) : (s.returns l).sampleCode = s.sampleCode := rfl
@[simp] theorem State.returns_mask (s : State) (l : List Byte) : (s.returns l).mask = s.mask := rfl
@[simp] theorem State.returns_contexts (s : State) (l : List Byte) : (s.returns l).contexts = s.contexts := rfl
@[simp] theorem State.returns_flight (s : State) (l : List Byte) : (s.returns l).flight = s.flight := rfl
@[simp] theorem State.returns_hazard (s : State) (l : List Byte) : (s.returns l).hazard = s.hazard := rfl
@[simp] theorem State.returns_nomon (s : State) (l : List Byte) : (s.returns l).nomon = s.nomon := rfl
@[simp] theorem State.returns_released (s : State) (l : List Byte) : (s.returns l).released = s.released := rfl
@[simp] theorem State.returns_contention (s : State) (l : List Byte) : (s.returns l).contention = s.contention := rfl
@[simp] theorem State.returns_replies (s : State) (l : List Byte) : (s.returns l).replies = s.replies := rfl
@[simp] theorem State.returns_notices (s : State) (l : List Byte) : (s.returns l).notices = s.notices := rfl
@[simp] theorem State.returns_overflow (s : State) (l : List Byte) : (s.returns l).overflow = s.overflow := rfl
@[simp] theorem State.returns_discardMark (s : State) (l : List Byte) : (s.returns l).discardMark = s.discardMark := rfl
@[simp] theorem State.returns_sampleTimer (s : State) (l : List Byte) : (s.returns l).sampleTimer = s.sampleTimer := rfl
@[simp] theorem State.returns_sampleLength (s : State) (l : List Byte) : (s.returns l).sampleLength = s.sampleLength := rfl
@[simp] theorem State.returns_atExpiry (s : State) (l : List Byte) : (s.returns l).atExpiry = s.atExpiry := rfl
@[simp] theorem State.returns_unitCounter (s : State) (l : List Byte) : (s.returns l).unitCounter = s.unitCounter := rfl
@[simp] theorem State.returns_refclkRunning (s : State) (l : List Byte) : (s.returns l).refclkRunning = s.refclkRunning := rfl
@[simp] theorem State.returns_resetLow (s : State) (l : List Byte) : (s.returns l).resetLow = s.resetLow := rfl
@[simp] theorem State.returns_inReset (s : State) (l : List Byte) : (s.returns l).inReset = s.inReset := rfl
@[simp] theorem State.returns_out (s : State) (l : List Byte) : (s.returns l).out = s.out := rfl
@[simp] theorem State.returns_draws (s : State) (l : List Byte) : (s.returns l).draws = s.draws := rfl
@[simp] theorem State.returns_pending (s : State) (l : List Byte) : (s.returns l).pending = s.pending := rfl
@[simp] theorem State.returns_ctx (s : State) (l : List Byte) (i : Master) : (s.returns l).ctx i = s.ctx i := by
  simp only [State.ctx, State.returns_contexts]
@[simp] theorem State.returns_entry (s : State) (l : List Byte) (i : EntryIx) : (s.returns l).entry i = s.entry i := by
  simp only [State.entry, State.returns_contention]
@[simp] theorem State.returns_window (s : State) (l : List Byte) (i : WindowIx) : (s.returns l).window i = s.window i := by
  simp only [State.window, State.returns_windows]

/-! What `State.askRegister` leaves unchanged. -/

theorem State.askRegister_keeps (s : State) (a : Byte) :
    (s.askRegister a).windows = s.windows ∧
    (s.askRegister a).mon = s.mon ∧
    (s.askRegister a).sampleCode = s.sampleCode ∧
    (s.askRegister a).mask = s.mask ∧
    (s.askRegister a).contexts = s.contexts ∧
    (s.askRegister a).flight = s.flight ∧
    (s.askRegister a).hazard = s.hazard ∧
    (s.askRegister a).nomon = s.nomon ∧
    (s.askRegister a).released = s.released ∧
    (s.askRegister a).contention = s.contention ∧
    (s.askRegister a).replies = s.replies ∧
    (s.askRegister a).notices = s.notices ∧
    (s.askRegister a).overflow = s.overflow ∧
    (s.askRegister a).discardMark = s.discardMark ∧
    (s.askRegister a).sampleTimer = s.sampleTimer ∧
    (s.askRegister a).sampleLength = s.sampleLength ∧
    (s.askRegister a).atExpiry = s.atExpiry ∧
    (s.askRegister a).unitCounter = s.unitCounter ∧
    (s.askRegister a).refclkRunning = s.refclkRunning ∧
    (s.askRegister a).resetLow = s.resetLow ∧
    (s.askRegister a).inReset = s.inReset ∧
    (s.askRegister a).out = s.out ∧
    (s.askRegister a).draws = s.draws ∧
    (s.askRegister a).pending = s.pending := by
  unfold State.askRegister; split <;> simp
@[simp] theorem State.askRegister_windows (s : State) (a : Byte) : (s.askRegister a).windows = s.windows := (s.askRegister_keeps a).1
@[simp] theorem State.askRegister_mon (s : State) (a : Byte) : (s.askRegister a).mon = s.mon := (s.askRegister_keeps a).2.1
@[simp] theorem State.askRegister_sampleCode (s : State) (a : Byte) : (s.askRegister a).sampleCode = s.sampleCode := (s.askRegister_keeps a).2.2.1
@[simp] theorem State.askRegister_mask (s : State) (a : Byte) : (s.askRegister a).mask = s.mask := (s.askRegister_keeps a).2.2.2.1
@[simp] theorem State.askRegister_contexts (s : State) (a : Byte) : (s.askRegister a).contexts = s.contexts := (s.askRegister_keeps a).2.2.2.2.1
@[simp] theorem State.askRegister_flight (s : State) (a : Byte) : (s.askRegister a).flight = s.flight := (s.askRegister_keeps a).2.2.2.2.2.1
@[simp] theorem State.askRegister_hazard (s : State) (a : Byte) : (s.askRegister a).hazard = s.hazard := (s.askRegister_keeps a).2.2.2.2.2.2.1
@[simp] theorem State.askRegister_nomon (s : State) (a : Byte) : (s.askRegister a).nomon = s.nomon := (s.askRegister_keeps a).2.2.2.2.2.2.2.1
@[simp] theorem State.askRegister_released (s : State) (a : Byte) : (s.askRegister a).released = s.released := (s.askRegister_keeps a).2.2.2.2.2.2.2.2.1
@[simp] theorem State.askRegister_contention (s : State) (a : Byte) : (s.askRegister a).contention = s.contention := (s.askRegister_keeps a).2.2.2.2.2.2.2.2.2.1
@[simp] theorem State.askRegister_replies (s : State) (a : Byte) : (s.askRegister a).replies = s.replies := (s.askRegister_keeps a).2.2.2.2.2.2.2.2.2.2.1
@[simp] theorem State.askRegister_notices (s : State) (a : Byte) : (s.askRegister a).notices = s.notices := (s.askRegister_keeps a).2.2.2.2.2.2.2.2.2.2.2.1
@[simp] theorem State.askRegister_overflow (s : State) (a : Byte) : (s.askRegister a).overflow = s.overflow := (s.askRegister_keeps a).2.2.2.2.2.2.2.2.2.2.2.2.1
@[simp] theorem State.askRegister_discardMark (s : State) (a : Byte) : (s.askRegister a).discardMark = s.discardMark := (s.askRegister_keeps a).2.2.2.2.2.2.2.2.2.2.2.2.2.1
@[simp] theorem State.askRegister_sampleTimer (s : State) (a : Byte) : (s.askRegister a).sampleTimer = s.sampleTimer := (s.askRegister_keeps a).2.2.2.2.2.2.2.2.2.2.2.2.2.2.1
@[simp] theorem State.askRegister_sampleLength (s : State) (a : Byte) : (s.askRegister a).sampleLength = s.sampleLength := (s.askRegister_keeps a).2.2.2.2.2.2.2.2.2.2.2.2.2.2.2.1
@[simp] theorem State.askRegister_atExpiry (s : State) (a : Byte) : (s.askRegister a).atExpiry = s.atExpiry := (s.askRegister_keeps a).2.2.2.2.2.2.2.2.2.2.2.2.2.2.2.2.1
@[simp] theorem State.askRegister_unitCounter (s : State) (a : Byte) : (s.askRegister a).unitCounter = s.unitCounter := (s.askRegister_keeps a).2.2.2.2.2.2.2.2.2.2.2.2.2.2.2.2.2.1
@[simp] theorem State.askRegister_refclkRunning (s : State) (a : Byte) : (s.askRegister a).refclkRunning = s.refclkRunning := (s.askRegister_keeps a).2.2.2.2.2.2.2.2.2.2.2.2.2.2.2.2.2.2.1
@[simp] theorem State.askRegister_resetLow (s : State) (a : Byte) : (s.askRegister a).resetLow = s.resetLow := (s.askRegister_keeps a).2.2.2.2.2.2.2.2.2.2.2.2.2.2.2.2.2.2.2.1
@[simp] theorem State.askRegister_inReset (s : State) (a : Byte) : (s.askRegister a).inReset = s.inReset := (s.askRegister_keeps a).2.2.2.2.2.2.2.2.2.2.2.2.2.2.2.2.2.2.2.2.1
@[simp] theorem State.askRegister_out (s : State) (a : Byte) : (s.askRegister a).out = s.out := (s.askRegister_keeps a).2.2.2.2.2.2.2.2.2.2.2.2.2.2.2.2.2.2.2.2.2.1
@[simp] theorem State.askRegister_draws (s : State) (a : Byte) : (s.askRegister a).draws = s.draws := (s.askRegister_keeps a).2.2.2.2.2.2.2.2.2.2.2.2.2.2.2.2.2.2.2.2.2.2.1
@[simp] theorem State.askRegister_pending (s : State) (a : Byte) : (s.askRegister a).pending = s.pending := (s.askRegister_keeps a).2.2.2.2.2.2.2.2.2.2.2.2.2.2.2.2.2.2.2.2.2.2.2
@[simp] theorem State.askRegister_ctx (s : State) (a : Byte) (i : Master) : (s.askRegister a).ctx i = s.ctx i := by
  simp only [State.ctx, State.askRegister_contexts]
@[simp] theorem State.askRegister_entry (s : State) (a : Byte) (i : EntryIx) : (s.askRegister a).entry i = s.entry i := by
  simp only [State.entry, State.askRegister_contention]
@[simp] theorem State.askRegister_window (s : State) (a : Byte) (i : WindowIx) : (s.askRegister a).window i = s.window i := by
  simp only [State.window, State.askRegister_windows]

/-! What `State.askEntry` leaves unchanged. -/

theorem State.askEntry_keeps (s : State) (x : Byte) :
    (s.askEntry x).windows = s.windows ∧
    (s.askEntry x).mon = s.mon ∧
    (s.askEntry x).sampleCode = s.sampleCode ∧
    (s.askEntry x).mask = s.mask ∧
    (s.askEntry x).contexts = s.contexts ∧
    (s.askEntry x).flight = s.flight ∧
    (s.askEntry x).hazard = s.hazard ∧
    (s.askEntry x).nomon = s.nomon ∧
    (s.askEntry x).released = s.released ∧
    (s.askEntry x).contention = s.contention ∧
    (s.askEntry x).replies = s.replies ∧
    (s.askEntry x).notices = s.notices ∧
    (s.askEntry x).overflow = s.overflow ∧
    (s.askEntry x).discardMark = s.discardMark ∧
    (s.askEntry x).sampleTimer = s.sampleTimer ∧
    (s.askEntry x).sampleLength = s.sampleLength ∧
    (s.askEntry x).atExpiry = s.atExpiry ∧
    (s.askEntry x).unitCounter = s.unitCounter ∧
    (s.askEntry x).refclkRunning = s.refclkRunning ∧
    (s.askEntry x).resetLow = s.resetLow ∧
    (s.askEntry x).inReset = s.inReset ∧
    (s.askEntry x).out = s.out ∧
    (s.askEntry x).draws = s.draws ∧
    (s.askEntry x).pending = s.pending := by
  unfold State.askEntry; split_ifs <;> simp
@[simp] theorem State.askEntry_windows (s : State) (x : Byte) : (s.askEntry x).windows = s.windows := (s.askEntry_keeps x).1
@[simp] theorem State.askEntry_mon (s : State) (x : Byte) : (s.askEntry x).mon = s.mon := (s.askEntry_keeps x).2.1
@[simp] theorem State.askEntry_sampleCode (s : State) (x : Byte) : (s.askEntry x).sampleCode = s.sampleCode := (s.askEntry_keeps x).2.2.1
@[simp] theorem State.askEntry_mask (s : State) (x : Byte) : (s.askEntry x).mask = s.mask := (s.askEntry_keeps x).2.2.2.1
@[simp] theorem State.askEntry_contexts (s : State) (x : Byte) : (s.askEntry x).contexts = s.contexts := (s.askEntry_keeps x).2.2.2.2.1
@[simp] theorem State.askEntry_flight (s : State) (x : Byte) : (s.askEntry x).flight = s.flight := (s.askEntry_keeps x).2.2.2.2.2.1
@[simp] theorem State.askEntry_hazard (s : State) (x : Byte) : (s.askEntry x).hazard = s.hazard := (s.askEntry_keeps x).2.2.2.2.2.2.1
@[simp] theorem State.askEntry_nomon (s : State) (x : Byte) : (s.askEntry x).nomon = s.nomon := (s.askEntry_keeps x).2.2.2.2.2.2.2.1
@[simp] theorem State.askEntry_released (s : State) (x : Byte) : (s.askEntry x).released = s.released := (s.askEntry_keeps x).2.2.2.2.2.2.2.2.1
@[simp] theorem State.askEntry_contention (s : State) (x : Byte) : (s.askEntry x).contention = s.contention := (s.askEntry_keeps x).2.2.2.2.2.2.2.2.2.1
@[simp] theorem State.askEntry_replies (s : State) (x : Byte) : (s.askEntry x).replies = s.replies := (s.askEntry_keeps x).2.2.2.2.2.2.2.2.2.2.1
@[simp] theorem State.askEntry_notices (s : State) (x : Byte) : (s.askEntry x).notices = s.notices := (s.askEntry_keeps x).2.2.2.2.2.2.2.2.2.2.2.1
@[simp] theorem State.askEntry_overflow (s : State) (x : Byte) : (s.askEntry x).overflow = s.overflow := (s.askEntry_keeps x).2.2.2.2.2.2.2.2.2.2.2.2.1
@[simp] theorem State.askEntry_discardMark (s : State) (x : Byte) : (s.askEntry x).discardMark = s.discardMark := (s.askEntry_keeps x).2.2.2.2.2.2.2.2.2.2.2.2.2.1
@[simp] theorem State.askEntry_sampleTimer (s : State) (x : Byte) : (s.askEntry x).sampleTimer = s.sampleTimer := (s.askEntry_keeps x).2.2.2.2.2.2.2.2.2.2.2.2.2.2.1
@[simp] theorem State.askEntry_sampleLength (s : State) (x : Byte) : (s.askEntry x).sampleLength = s.sampleLength := (s.askEntry_keeps x).2.2.2.2.2.2.2.2.2.2.2.2.2.2.2.1
@[simp] theorem State.askEntry_atExpiry (s : State) (x : Byte) : (s.askEntry x).atExpiry = s.atExpiry := (s.askEntry_keeps x).2.2.2.2.2.2.2.2.2.2.2.2.2.2.2.2.1
@[simp] theorem State.askEntry_unitCounter (s : State) (x : Byte) : (s.askEntry x).unitCounter = s.unitCounter := (s.askEntry_keeps x).2.2.2.2.2.2.2.2.2.2.2.2.2.2.2.2.2.1
@[simp] theorem State.askEntry_refclkRunning (s : State) (x : Byte) : (s.askEntry x).refclkRunning = s.refclkRunning := (s.askEntry_keeps x).2.2.2.2.2.2.2.2.2.2.2.2.2.2.2.2.2.2.1
@[simp] theorem State.askEntry_resetLow (s : State) (x : Byte) : (s.askEntry x).resetLow = s.resetLow := (s.askEntry_keeps x).2.2.2.2.2.2.2.2.2.2.2.2.2.2.2.2.2.2.2.1
@[simp] theorem State.askEntry_inReset (s : State) (x : Byte) : (s.askEntry x).inReset = s.inReset := (s.askEntry_keeps x).2.2.2.2.2.2.2.2.2.2.2.2.2.2.2.2.2.2.2.2.1
@[simp] theorem State.askEntry_out (s : State) (x : Byte) : (s.askEntry x).out = s.out := (s.askEntry_keeps x).2.2.2.2.2.2.2.2.2.2.2.2.2.2.2.2.2.2.2.2.2.1
@[simp] theorem State.askEntry_draws (s : State) (x : Byte) : (s.askEntry x).draws = s.draws := (s.askEntry_keeps x).2.2.2.2.2.2.2.2.2.2.2.2.2.2.2.2.2.2.2.2.2.2.1
@[simp] theorem State.askEntry_pending (s : State) (x : Byte) : (s.askEntry x).pending = s.pending := (s.askEntry_keeps x).2.2.2.2.2.2.2.2.2.2.2.2.2.2.2.2.2.2.2.2.2.2.2
@[simp] theorem State.askEntry_ctx (s : State) (x : Byte) (i : Master) : (s.askEntry x).ctx i = s.ctx i := by
  simp only [State.ctx, State.askEntry_contexts]
@[simp] theorem State.askEntry_entry (s : State) (x : Byte) (i : EntryIx) : (s.askEntry x).entry i = s.entry i := by
  simp only [State.entry, State.askEntry_contention]
@[simp] theorem State.askEntry_window (s : State) (x : Byte) (i : WindowIx) : (s.askEntry x).window i = s.window i := by
  simp only [State.window, State.askEntry_windows]

/-! What `State.askContext` leaves unchanged. -/

theorem State.askContext_keeps (s : State) (x : Byte) :
    (s.askContext x).windows = s.windows ∧
    (s.askContext x).mon = s.mon ∧
    (s.askContext x).sampleCode = s.sampleCode ∧
    (s.askContext x).mask = s.mask ∧
    (s.askContext x).contexts = s.contexts ∧
    (s.askContext x).flight = s.flight ∧
    (s.askContext x).hazard = s.hazard ∧
    (s.askContext x).nomon = s.nomon ∧
    (s.askContext x).released = s.released ∧
    (s.askContext x).contention = s.contention ∧
    (s.askContext x).replies = s.replies ∧
    (s.askContext x).notices = s.notices ∧
    (s.askContext x).overflow = s.overflow ∧
    (s.askContext x).discardMark = s.discardMark ∧
    (s.askContext x).sampleTimer = s.sampleTimer ∧
    (s.askContext x).sampleLength = s.sampleLength ∧
    (s.askContext x).atExpiry = s.atExpiry ∧
    (s.askContext x).unitCounter = s.unitCounter ∧
    (s.askContext x).refclkRunning = s.refclkRunning ∧
    (s.askContext x).resetLow = s.resetLow ∧
    (s.askContext x).inReset = s.inReset ∧
    (s.askContext x).out = s.out ∧
    (s.askContext x).draws = s.draws ∧
    (s.askContext x).pending = s.pending := by
  unfold State.askContext; split_ifs <;> simp
@[simp] theorem State.askContext_windows (s : State) (x : Byte) : (s.askContext x).windows = s.windows := (s.askContext_keeps x).1
@[simp] theorem State.askContext_mon (s : State) (x : Byte) : (s.askContext x).mon = s.mon := (s.askContext_keeps x).2.1
@[simp] theorem State.askContext_sampleCode (s : State) (x : Byte) : (s.askContext x).sampleCode = s.sampleCode := (s.askContext_keeps x).2.2.1
@[simp] theorem State.askContext_mask (s : State) (x : Byte) : (s.askContext x).mask = s.mask := (s.askContext_keeps x).2.2.2.1
@[simp] theorem State.askContext_contexts (s : State) (x : Byte) : (s.askContext x).contexts = s.contexts := (s.askContext_keeps x).2.2.2.2.1
@[simp] theorem State.askContext_flight (s : State) (x : Byte) : (s.askContext x).flight = s.flight := (s.askContext_keeps x).2.2.2.2.2.1
@[simp] theorem State.askContext_hazard (s : State) (x : Byte) : (s.askContext x).hazard = s.hazard := (s.askContext_keeps x).2.2.2.2.2.2.1
@[simp] theorem State.askContext_nomon (s : State) (x : Byte) : (s.askContext x).nomon = s.nomon := (s.askContext_keeps x).2.2.2.2.2.2.2.1
@[simp] theorem State.askContext_released (s : State) (x : Byte) : (s.askContext x).released = s.released := (s.askContext_keeps x).2.2.2.2.2.2.2.2.1
@[simp] theorem State.askContext_contention (s : State) (x : Byte) : (s.askContext x).contention = s.contention := (s.askContext_keeps x).2.2.2.2.2.2.2.2.2.1
@[simp] theorem State.askContext_replies (s : State) (x : Byte) : (s.askContext x).replies = s.replies := (s.askContext_keeps x).2.2.2.2.2.2.2.2.2.2.1
@[simp] theorem State.askContext_notices (s : State) (x : Byte) : (s.askContext x).notices = s.notices := (s.askContext_keeps x).2.2.2.2.2.2.2.2.2.2.2.1
@[simp] theorem State.askContext_overflow (s : State) (x : Byte) : (s.askContext x).overflow = s.overflow := (s.askContext_keeps x).2.2.2.2.2.2.2.2.2.2.2.2.1
@[simp] theorem State.askContext_discardMark (s : State) (x : Byte) : (s.askContext x).discardMark = s.discardMark := (s.askContext_keeps x).2.2.2.2.2.2.2.2.2.2.2.2.2.1
@[simp] theorem State.askContext_sampleTimer (s : State) (x : Byte) : (s.askContext x).sampleTimer = s.sampleTimer := (s.askContext_keeps x).2.2.2.2.2.2.2.2.2.2.2.2.2.2.1
@[simp] theorem State.askContext_sampleLength (s : State) (x : Byte) : (s.askContext x).sampleLength = s.sampleLength := (s.askContext_keeps x).2.2.2.2.2.2.2.2.2.2.2.2.2.2.2.1
@[simp] theorem State.askContext_atExpiry (s : State) (x : Byte) : (s.askContext x).atExpiry = s.atExpiry := (s.askContext_keeps x).2.2.2.2.2.2.2.2.2.2.2.2.2.2.2.2.1
@[simp] theorem State.askContext_unitCounter (s : State) (x : Byte) : (s.askContext x).unitCounter = s.unitCounter := (s.askContext_keeps x).2.2.2.2.2.2.2.2.2.2.2.2.2.2.2.2.2.1
@[simp] theorem State.askContext_refclkRunning (s : State) (x : Byte) : (s.askContext x).refclkRunning = s.refclkRunning := (s.askContext_keeps x).2.2.2.2.2.2.2.2.2.2.2.2.2.2.2.2.2.2.1
@[simp] theorem State.askContext_resetLow (s : State) (x : Byte) : (s.askContext x).resetLow = s.resetLow := (s.askContext_keeps x).2.2.2.2.2.2.2.2.2.2.2.2.2.2.2.2.2.2.2.1
@[simp] theorem State.askContext_inReset (s : State) (x : Byte) : (s.askContext x).inReset = s.inReset := (s.askContext_keeps x).2.2.2.2.2.2.2.2.2.2.2.2.2.2.2.2.2.2.2.2.1
@[simp] theorem State.askContext_out (s : State) (x : Byte) : (s.askContext x).out = s.out := (s.askContext_keeps x).2.2.2.2.2.2.2.2.2.2.2.2.2.2.2.2.2.2.2.2.2.1
@[simp] theorem State.askContext_draws (s : State) (x : Byte) : (s.askContext x).draws = s.draws := (s.askContext_keeps x).2.2.2.2.2.2.2.2.2.2.2.2.2.2.2.2.2.2.2.2.2.2.1
@[simp] theorem State.askContext_pending (s : State) (x : Byte) : (s.askContext x).pending = s.pending := (s.askContext_keeps x).2.2.2.2.2.2.2.2.2.2.2.2.2.2.2.2.2.2.2.2.2.2.2
@[simp] theorem State.askContext_ctx (s : State) (x : Byte) (i : Master) : (s.askContext x).ctx i = s.ctx i := by
  simp only [State.ctx, State.askContext_contexts]
@[simp] theorem State.askContext_entry (s : State) (x : Byte) (i : EntryIx) : (s.askContext x).entry i = s.entry i := by
  simp only [State.entry, State.askContext_contention]
@[simp] theorem State.askContext_window (s : State) (x : Byte) (i : WindowIx) : (s.askContext x).window i = s.window i := by
  simp only [State.window, State.askContext_windows]

/-! What `State.commandByte` leaves unchanged. -/

theorem State.commandByte_keeps (s : State) (b : Byte) :
    (s.commandByte b).windows = s.windows ∧
    (s.commandByte b).mon = s.mon ∧
    (s.commandByte b).sampleCode = s.sampleCode ∧
    (s.commandByte b).mask = s.mask ∧
    (s.commandByte b).nomon = s.nomon ∧
    (s.commandByte b).replies = s.replies ∧
    (s.commandByte b).sampleTimer = s.sampleTimer ∧
    (s.commandByte b).sampleLength = s.sampleLength ∧
    (s.commandByte b).atExpiry = s.atExpiry ∧
    (s.commandByte b).unitCounter = s.unitCounter ∧
    (s.commandByte b).refclkRunning = s.refclkRunning ∧
    (s.commandByte b).resetLow = s.resetLow ∧
    (s.commandByte b).inReset = s.inReset ∧
    (s.commandByte b).out = s.out ∧
    (s.commandByte b).draws = s.draws ∧
    (s.commandByte b).pending = s.pending := by
  unfold State.commandByte; dsimp only; split <;> simp
@[simp] theorem State.commandByte_windows (s : State) (b : Byte) : (s.commandByte b).windows = s.windows := (s.commandByte_keeps b).1
@[simp] theorem State.commandByte_mon (s : State) (b : Byte) : (s.commandByte b).mon = s.mon := (s.commandByte_keeps b).2.1
@[simp] theorem State.commandByte_sampleCode (s : State) (b : Byte) : (s.commandByte b).sampleCode = s.sampleCode := (s.commandByte_keeps b).2.2.1
@[simp] theorem State.commandByte_mask (s : State) (b : Byte) : (s.commandByte b).mask = s.mask := (s.commandByte_keeps b).2.2.2.1
@[simp] theorem State.commandByte_nomon (s : State) (b : Byte) : (s.commandByte b).nomon = s.nomon := (s.commandByte_keeps b).2.2.2.2.1
@[simp] theorem State.commandByte_replies (s : State) (b : Byte) : (s.commandByte b).replies = s.replies := (s.commandByte_keeps b).2.2.2.2.2.1
@[simp] theorem State.commandByte_sampleTimer (s : State) (b : Byte) : (s.commandByte b).sampleTimer = s.sampleTimer := (s.commandByte_keeps b).2.2.2.2.2.2.1
@[simp] theorem State.commandByte_sampleLength (s : State) (b : Byte) : (s.commandByte b).sampleLength = s.sampleLength := (s.commandByte_keeps b).2.2.2.2.2.2.2.1
@[simp] theorem State.commandByte_atExpiry (s : State) (b : Byte) : (s.commandByte b).atExpiry = s.atExpiry := (s.commandByte_keeps b).2.2.2.2.2.2.2.2.1
@[simp] theorem State.commandByte_unitCounter (s : State) (b : Byte) : (s.commandByte b).unitCounter = s.unitCounter := (s.commandByte_keeps b).2.2.2.2.2.2.2.2.2.1
@[simp] theorem State.commandByte_refclkRunning (s : State) (b : Byte) : (s.commandByte b).refclkRunning = s.refclkRunning := (s.commandByte_keeps b).2.2.2.2.2.2.2.2.2.2.1
@[simp] theorem State.commandByte_resetLow (s : State) (b : Byte) : (s.commandByte b).resetLow = s.resetLow := (s.commandByte_keeps b).2.2.2.2.2.2.2.2.2.2.2.1
@[simp] theorem State.commandByte_inReset (s : State) (b : Byte) : (s.commandByte b).inReset = s.inReset := (s.commandByte_keeps b).2.2.2.2.2.2.2.2.2.2.2.2.1
@[simp] theorem State.commandByte_out (s : State) (b : Byte) : (s.commandByte b).out = s.out := (s.commandByte_keeps b).2.2.2.2.2.2.2.2.2.2.2.2.2.1
@[simp] theorem State.commandByte_draws (s : State) (b : Byte) : (s.commandByte b).draws = s.draws := (s.commandByte_keeps b).2.2.2.2.2.2.2.2.2.2.2.2.2.2.1
@[simp] theorem State.commandByte_pending (s : State) (b : Byte) : (s.commandByte b).pending = s.pending := (s.commandByte_keeps b).2.2.2.2.2.2.2.2.2.2.2.2.2.2.2
@[simp] theorem State.commandByte_window (s : State) (b : Byte) (i : WindowIx) : (s.commandByte b).window i = s.window i := by
  simp only [State.window, State.commandByte_windows]

/-! What `State.argumentByte` leaves unchanged. -/

theorem State.argumentByte_keeps (s : State) (b : Byte) :
    (s.argumentByte b).windows = s.windows ∧
    (s.argumentByte b).mon = s.mon ∧
    (s.argumentByte b).sampleCode = s.sampleCode ∧
    (s.argumentByte b).mask = s.mask ∧
    (s.argumentByte b).nomon = s.nomon ∧
    (s.argumentByte b).replies = s.replies ∧
    (s.argumentByte b).sampleTimer = s.sampleTimer ∧
    (s.argumentByte b).sampleLength = s.sampleLength ∧
    (s.argumentByte b).atExpiry = s.atExpiry ∧
    (s.argumentByte b).unitCounter = s.unitCounter ∧
    (s.argumentByte b).refclkRunning = s.refclkRunning ∧
    (s.argumentByte b).resetLow = s.resetLow ∧
    (s.argumentByte b).inReset = s.inReset ∧
    (s.argumentByte b).out = s.out ∧
    (s.argumentByte b).draws = s.draws ∧
    (s.argumentByte b).pending = s.pending := by
  unfold State.argumentByte; split <;> simp
@[simp] theorem State.argumentByte_windows (s : State) (b : Byte) : (s.argumentByte b).windows = s.windows := (s.argumentByte_keeps b).1
@[simp] theorem State.argumentByte_mon (s : State) (b : Byte) : (s.argumentByte b).mon = s.mon := (s.argumentByte_keeps b).2.1
@[simp] theorem State.argumentByte_sampleCode (s : State) (b : Byte) : (s.argumentByte b).sampleCode = s.sampleCode := (s.argumentByte_keeps b).2.2.1
@[simp] theorem State.argumentByte_mask (s : State) (b : Byte) : (s.argumentByte b).mask = s.mask := (s.argumentByte_keeps b).2.2.2.1
@[simp] theorem State.argumentByte_nomon (s : State) (b : Byte) : (s.argumentByte b).nomon = s.nomon := (s.argumentByte_keeps b).2.2.2.2.1
@[simp] theorem State.argumentByte_replies (s : State) (b : Byte) : (s.argumentByte b).replies = s.replies := (s.argumentByte_keeps b).2.2.2.2.2.1
@[simp] theorem State.argumentByte_sampleTimer (s : State) (b : Byte) : (s.argumentByte b).sampleTimer = s.sampleTimer := (s.argumentByte_keeps b).2.2.2.2.2.2.1
@[simp] theorem State.argumentByte_sampleLength (s : State) (b : Byte) : (s.argumentByte b).sampleLength = s.sampleLength := (s.argumentByte_keeps b).2.2.2.2.2.2.2.1
@[simp] theorem State.argumentByte_atExpiry (s : State) (b : Byte) : (s.argumentByte b).atExpiry = s.atExpiry := (s.argumentByte_keeps b).2.2.2.2.2.2.2.2.1
@[simp] theorem State.argumentByte_unitCounter (s : State) (b : Byte) : (s.argumentByte b).unitCounter = s.unitCounter := (s.argumentByte_keeps b).2.2.2.2.2.2.2.2.2.1
@[simp] theorem State.argumentByte_refclkRunning (s : State) (b : Byte) : (s.argumentByte b).refclkRunning = s.refclkRunning := (s.argumentByte_keeps b).2.2.2.2.2.2.2.2.2.2.1
@[simp] theorem State.argumentByte_resetLow (s : State) (b : Byte) : (s.argumentByte b).resetLow = s.resetLow := (s.argumentByte_keeps b).2.2.2.2.2.2.2.2.2.2.2.1
@[simp] theorem State.argumentByte_inReset (s : State) (b : Byte) : (s.argumentByte b).inReset = s.inReset := (s.argumentByte_keeps b).2.2.2.2.2.2.2.2.2.2.2.2.1
@[simp] theorem State.argumentByte_out (s : State) (b : Byte) : (s.argumentByte b).out = s.out := (s.argumentByte_keeps b).2.2.2.2.2.2.2.2.2.2.2.2.2.1
@[simp] theorem State.argumentByte_draws (s : State) (b : Byte) : (s.argumentByte b).draws = s.draws := (s.argumentByte_keeps b).2.2.2.2.2.2.2.2.2.2.2.2.2.2.1
@[simp] theorem State.argumentByte_pending (s : State) (b : Byte) : (s.argumentByte b).pending = s.pending := (s.argumentByte_keeps b).2.2.2.2.2.2.2.2.2.2.2.2.2.2.2
@[simp] theorem State.argumentByte_window (s : State) (b : Byte) (i : WindowIx) : (s.argumentByte b).window i = s.window i := by
  simp only [State.window, State.argumentByte_windows]

/-! What `State.dataByte` leaves unchanged. -/

theorem State.dataByte_keeps (s : State) (b : Byte) :
    (s.dataByte b).nomon = s.nomon ∧
    (s.dataByte b).replies = s.replies ∧
    (s.dataByte b).notices = s.notices ∧
    (s.dataByte b).overflow = s.overflow ∧
    (s.dataByte b).discardMark = s.discardMark ∧
    (s.dataByte b).sampleTimer = s.sampleTimer ∧
    (s.dataByte b).atExpiry = s.atExpiry ∧
    (s.dataByte b).unitCounter = s.unitCounter ∧
    (s.dataByte b).refclkRunning = s.refclkRunning ∧
    (s.dataByte b).resetLow = s.resetLow ∧
    (s.dataByte b).inReset = s.inReset ∧
    (s.dataByte b).out = s.out ∧
    (s.dataByte b).draws = s.draws ∧
    (s.dataByte b).pending = s.pending := by
  unfold State.dataByte; split <;> simp
@[simp] theorem State.dataByte_nomon (s : State) (b : Byte) : (s.dataByte b).nomon = s.nomon := (s.dataByte_keeps b).1
@[simp] theorem State.dataByte_replies (s : State) (b : Byte) : (s.dataByte b).replies = s.replies := (s.dataByte_keeps b).2.1
@[simp] theorem State.dataByte_notices (s : State) (b : Byte) : (s.dataByte b).notices = s.notices := (s.dataByte_keeps b).2.2.1
@[simp] theorem State.dataByte_overflow (s : State) (b : Byte) : (s.dataByte b).overflow = s.overflow := (s.dataByte_keeps b).2.2.2.1
@[simp] theorem State.dataByte_discardMark (s : State) (b : Byte) : (s.dataByte b).discardMark = s.discardMark := (s.dataByte_keeps b).2.2.2.2.1
@[simp] theorem State.dataByte_sampleTimer (s : State) (b : Byte) : (s.dataByte b).sampleTimer = s.sampleTimer := (s.dataByte_keeps b).2.2.2.2.2.1
@[simp] theorem State.dataByte_atExpiry (s : State) (b : Byte) : (s.dataByte b).atExpiry = s.atExpiry := (s.dataByte_keeps b).2.2.2.2.2.2.1
@[simp] theorem State.dataByte_unitCounter (s : State) (b : Byte) : (s.dataByte b).unitCounter = s.unitCounter := (s.dataByte_keeps b).2.2.2.2.2.2.2.1
@[simp] theorem State.dataByte_refclkRunning (s : State) (b : Byte) : (s.dataByte b).refclkRunning = s.refclkRunning := (s.dataByte_keeps b).2.2.2.2.2.2.2.2.1
@[simp] theorem State.dataByte_resetLow (s : State) (b : Byte) : (s.dataByte b).resetLow = s.resetLow := (s.dataByte_keeps b).2.2.2.2.2.2.2.2.2.1
@[simp] theorem State.dataByte_inReset (s : State) (b : Byte) : (s.dataByte b).inReset = s.inReset := (s.dataByte_keeps b).2.2.2.2.2.2.2.2.2.2.1
@[simp] theorem State.dataByte_out (s : State) (b : Byte) : (s.dataByte b).out = s.out := (s.dataByte_keeps b).2.2.2.2.2.2.2.2.2.2.2.1
@[simp] theorem State.dataByte_draws (s : State) (b : Byte) : (s.dataByte b).draws = s.draws := (s.dataByte_keeps b).2.2.2.2.2.2.2.2.2.2.2.2.1
@[simp] theorem State.dataByte_pending (s : State) (b : Byte) : (s.dataByte b).pending = s.pending := (s.dataByte_keeps b).2.2.2.2.2.2.2.2.2.2.2.2.2

/-! What `State.finishReturn` leaves unchanged. -/

theorem State.finishReturn_keeps (s : State) :
    (s.finishReturn).windows = s.windows ∧
    (s.finishReturn).mon = s.mon ∧
    (s.finishReturn).sampleCode = s.sampleCode ∧
    (s.finishReturn).mask = s.mask ∧
    (s.finishReturn).contexts = s.contexts ∧
    (s.finishReturn).flight = s.flight ∧
    (s.finishReturn).hazard = s.hazard ∧
    (s.finishReturn).nomon = s.nomon ∧
    (s.finishReturn).released = s.released ∧
    (s.finishReturn).contention = s.contention ∧
    (s.finishReturn).replies = s.replies ∧
    (s.finishReturn).discardMark = s.discardMark ∧
    (s.finishReturn).sampleTimer = s.sampleTimer ∧
    (s.finishReturn).sampleLength = s.sampleLength ∧
    (s.finishReturn).atExpiry = s.atExpiry ∧
    (s.finishReturn).unitCounter = s.unitCounter ∧
    (s.finishReturn).refclkRunning = s.refclkRunning ∧
    (s.finishReturn).resetLow = s.resetLow ∧
    (s.finishReturn).inReset = s.inReset ∧
    (s.finishReturn).out = s.out ∧
    (s.finishReturn).draws = s.draws ∧
    (s.finishReturn).pending = s.pending := by
  unfold State.finishReturn; split <;> (try split_ifs) <;> simp
@[simp] theorem State.finishReturn_windows (s : State) : (s.finishReturn).windows = s.windows := (s.finishReturn_keeps).1
@[simp] theorem State.finishReturn_mon (s : State) : (s.finishReturn).mon = s.mon := (s.finishReturn_keeps).2.1
@[simp] theorem State.finishReturn_sampleCode (s : State) : (s.finishReturn).sampleCode = s.sampleCode := (s.finishReturn_keeps).2.2.1
@[simp] theorem State.finishReturn_mask (s : State) : (s.finishReturn).mask = s.mask := (s.finishReturn_keeps).2.2.2.1
@[simp] theorem State.finishReturn_contexts (s : State) : (s.finishReturn).contexts = s.contexts := (s.finishReturn_keeps).2.2.2.2.1
@[simp] theorem State.finishReturn_flight (s : State) : (s.finishReturn).flight = s.flight := (s.finishReturn_keeps).2.2.2.2.2.1
@[simp] theorem State.finishReturn_hazard (s : State) : (s.finishReturn).hazard = s.hazard := (s.finishReturn_keeps).2.2.2.2.2.2.1
@[simp] theorem State.finishReturn_nomon (s : State) : (s.finishReturn).nomon = s.nomon := (s.finishReturn_keeps).2.2.2.2.2.2.2.1
@[simp] theorem State.finishReturn_released (s : State) : (s.finishReturn).released = s.released := (s.finishReturn_keeps).2.2.2.2.2.2.2.2.1
@[simp] theorem State.finishReturn_contention (s : State) : (s.finishReturn).contention = s.contention := (s.finishReturn_keeps).2.2.2.2.2.2.2.2.2.1
@[simp] theorem State.finishReturn_replies (s : State) : (s.finishReturn).replies = s.replies := (s.finishReturn_keeps).2.2.2.2.2.2.2.2.2.2.1
@[simp] theorem State.finishReturn_discardMark (s : State) : (s.finishReturn).discardMark = s.discardMark := (s.finishReturn_keeps).2.2.2.2.2.2.2.2.2.2.2.1
@[simp] theorem State.finishReturn_sampleTimer (s : State) : (s.finishReturn).sampleTimer = s.sampleTimer := (s.finishReturn_keeps).2.2.2.2.2.2.2.2.2.2.2.2.1
@[simp] theorem State.finishReturn_sampleLength (s : State) : (s.finishReturn).sampleLength = s.sampleLength := (s.finishReturn_keeps).2.2.2.2.2.2.2.2.2.2.2.2.2.1
@[simp] theorem State.finishReturn_atExpiry (s : State) : (s.finishReturn).atExpiry = s.atExpiry := (s.finishReturn_keeps).2.2.2.2.2.2.2.2.2.2.2.2.2.2.1
@[simp] theorem State.finishReturn_unitCounter (s : State) : (s.finishReturn).unitCounter = s.unitCounter := (s.finishReturn_keeps).2.2.2.2.2.2.2.2.2.2.2.2.2.2.2.1
@[simp] theorem State.finishReturn_refclkRunning (s : State) : (s.finishReturn).refclkRunning = s.refclkRunning := (s.finishReturn_keeps).2.2.2.2.2.2.2.2.2.2.2.2.2.2.2.2.1
@[simp] theorem State.finishReturn_resetLow (s : State) : (s.finishReturn).resetLow = s.resetLow := (s.finishReturn_keeps).2.2.2.2.2.2.2.2.2.2.2.2.2.2.2.2.2.1
@[simp] theorem State.finishReturn_inReset (s : State) : (s.finishReturn).inReset = s.inReset := (s.finishReturn_keeps).2.2.2.2.2.2.2.2.2.2.2.2.2.2.2.2.2.2.1
@[simp] theorem State.finishReturn_out (s : State) : (s.finishReturn).out = s.out := (s.finishReturn_keeps).2.2.2.2.2.2.2.2.2.2.2.2.2.2.2.2.2.2.2.1
@[simp] theorem State.finishReturn_draws (s : State) : (s.finishReturn).draws = s.draws := (s.finishReturn_keeps).2.2.2.2.2.2.2.2.2.2.2.2.2.2.2.2.2.2.2.2.1
@[simp] theorem State.finishReturn_pending (s : State) : (s.finishReturn).pending = s.pending := (s.finishReturn_keeps).2.2.2.2.2.2.2.2.2.2.2.2.2.2.2.2.2.2.2.2.2
@[simp] theorem State.finishReturn_ctx (s : State) (i : Master) : (s.finishReturn).ctx i = s.ctx i := by
  simp only [State.ctx, State.finishReturn_contexts]
@[simp] theorem State.finishReturn_entry (s : State) (i : EntryIx) : (s.finishReturn).entry i = s.entry i := by
  simp only [State.entry, State.finishReturn_contention]
@[simp] theorem State.finishReturn_window (s : State) (i : WindowIx) : (s.finishReturn).window i = s.window i := by
  simp only [State.window, State.finishReturn_windows]

/-! What `State.returnByte` leaves unchanged. -/

theorem State.returnByte_keeps (s : State) :
    (s.returnByte).windows = s.windows ∧
    (s.returnByte).mon = s.mon ∧
    (s.returnByte).sampleCode = s.sampleCode ∧
    (s.returnByte).mask = s.mask ∧
    (s.returnByte).contexts = s.contexts ∧
    (s.returnByte).flight = s.flight ∧
    (s.returnByte).hazard = s.hazard ∧
    (s.returnByte).nomon = s.nomon ∧
    (s.returnByte).released = s.released ∧
    (s.returnByte).contention = s.contention ∧
    (s.returnByte).replies = s.replies ∧
    (s.returnByte).discardMark = s.discardMark ∧
    (s.returnByte).sampleTimer = s.sampleTimer ∧
    (s.returnByte).sampleLength = s.sampleLength ∧
    (s.returnByte).atExpiry = s.atExpiry ∧
    (s.returnByte).unitCounter = s.unitCounter ∧
    (s.returnByte).refclkRunning = s.refclkRunning ∧
    (s.returnByte).resetLow = s.resetLow ∧
    (s.returnByte).inReset = s.inReset ∧
    (s.returnByte).out = s.out ∧
    (s.returnByte).draws = s.draws ∧
    (s.returnByte).pending = s.pending := by
  unfold State.returnByte; dsimp only; split_ifs <;> simp
@[simp] theorem State.returnByte_windows (s : State) : (s.returnByte).windows = s.windows := (s.returnByte_keeps).1
@[simp] theorem State.returnByte_mon (s : State) : (s.returnByte).mon = s.mon := (s.returnByte_keeps).2.1
@[simp] theorem State.returnByte_sampleCode (s : State) : (s.returnByte).sampleCode = s.sampleCode := (s.returnByte_keeps).2.2.1
@[simp] theorem State.returnByte_mask (s : State) : (s.returnByte).mask = s.mask := (s.returnByte_keeps).2.2.2.1
@[simp] theorem State.returnByte_contexts (s : State) : (s.returnByte).contexts = s.contexts := (s.returnByte_keeps).2.2.2.2.1
@[simp] theorem State.returnByte_flight (s : State) : (s.returnByte).flight = s.flight := (s.returnByte_keeps).2.2.2.2.2.1
@[simp] theorem State.returnByte_hazard (s : State) : (s.returnByte).hazard = s.hazard := (s.returnByte_keeps).2.2.2.2.2.2.1
@[simp] theorem State.returnByte_nomon (s : State) : (s.returnByte).nomon = s.nomon := (s.returnByte_keeps).2.2.2.2.2.2.2.1
@[simp] theorem State.returnByte_released (s : State) : (s.returnByte).released = s.released := (s.returnByte_keeps).2.2.2.2.2.2.2.2.1
@[simp] theorem State.returnByte_contention (s : State) : (s.returnByte).contention = s.contention := (s.returnByte_keeps).2.2.2.2.2.2.2.2.2.1
@[simp] theorem State.returnByte_replies (s : State) : (s.returnByte).replies = s.replies := (s.returnByte_keeps).2.2.2.2.2.2.2.2.2.2.1
@[simp] theorem State.returnByte_discardMark (s : State) : (s.returnByte).discardMark = s.discardMark := (s.returnByte_keeps).2.2.2.2.2.2.2.2.2.2.2.1
@[simp] theorem State.returnByte_sampleTimer (s : State) : (s.returnByte).sampleTimer = s.sampleTimer := (s.returnByte_keeps).2.2.2.2.2.2.2.2.2.2.2.2.1
@[simp] theorem State.returnByte_sampleLength (s : State) : (s.returnByte).sampleLength = s.sampleLength := (s.returnByte_keeps).2.2.2.2.2.2.2.2.2.2.2.2.2.1
@[simp] theorem State.returnByte_atExpiry (s : State) : (s.returnByte).atExpiry = s.atExpiry := (s.returnByte_keeps).2.2.2.2.2.2.2.2.2.2.2.2.2.2.1
@[simp] theorem State.returnByte_unitCounter (s : State) : (s.returnByte).unitCounter = s.unitCounter := (s.returnByte_keeps).2.2.2.2.2.2.2.2.2.2.2.2.2.2.2.1
@[simp] theorem State.returnByte_refclkRunning (s : State) : (s.returnByte).refclkRunning = s.refclkRunning := (s.returnByte_keeps).2.2.2.2.2.2.2.2.2.2.2.2.2.2.2.2.1
@[simp] theorem State.returnByte_resetLow (s : State) : (s.returnByte).resetLow = s.resetLow := (s.returnByte_keeps).2.2.2.2.2.2.2.2.2.2.2.2.2.2.2.2.2.1
@[simp] theorem State.returnByte_inReset (s : State) : (s.returnByte).inReset = s.inReset := (s.returnByte_keeps).2.2.2.2.2.2.2.2.2.2.2.2.2.2.2.2.2.2.1
@[simp] theorem State.returnByte_out (s : State) : (s.returnByte).out = s.out := (s.returnByte_keeps).2.2.2.2.2.2.2.2.2.2.2.2.2.2.2.2.2.2.2.1
@[simp] theorem State.returnByte_draws (s : State) : (s.returnByte).draws = s.draws := (s.returnByte_keeps).2.2.2.2.2.2.2.2.2.2.2.2.2.2.2.2.2.2.2.2.1
@[simp] theorem State.returnByte_pending (s : State) : (s.returnByte).pending = s.pending := (s.returnByte_keeps).2.2.2.2.2.2.2.2.2.2.2.2.2.2.2.2.2.2.2.2.2
@[simp] theorem State.returnByte_ctx (s : State) (i : Master) : (s.returnByte).ctx i = s.ctx i := by
  simp only [State.ctx, State.returnByte_contexts]
@[simp] theorem State.returnByte_entry (s : State) (i : EntryIx) : (s.returnByte).entry i = s.entry i := by
  simp only [State.entry, State.returnByte_contention]
@[simp] theorem State.returnByte_window (s : State) (i : WindowIx) : (s.returnByte).window i = s.window i := by
  simp only [State.window, State.returnByte_windows]

/-! What `State.linkByte` leaves unchanged. -/

theorem State.linkByte_keeps (s : State) (b : Byte) :
    (s.linkByte b).nomon = s.nomon ∧
    (s.linkByte b).replies = s.replies ∧
    (s.linkByte b).sampleTimer = s.sampleTimer ∧
    (s.linkByte b).atExpiry = s.atExpiry ∧
    (s.linkByte b).unitCounter = s.unitCounter ∧
    (s.linkByte b).refclkRunning = s.refclkRunning ∧
    (s.linkByte b).resetLow = s.resetLow ∧
    (s.linkByte b).inReset = s.inReset ∧
    (s.linkByte b).out = s.out ∧
    (s.linkByte b).draws = s.draws ∧
    (s.linkByte b).pending = s.pending := by
  unfold State.linkByte; dsimp only; split_ifs
  · simp
  · simp
  · split <;> simp
@[simp] theorem State.linkByte_nomon (s : State) (b : Byte) : (s.linkByte b).nomon = s.nomon := (s.linkByte_keeps b).1
@[simp] theorem State.linkByte_replies (s : State) (b : Byte) : (s.linkByte b).replies = s.replies := (s.linkByte_keeps b).2.1
@[simp] theorem State.linkByte_sampleTimer (s : State) (b : Byte) : (s.linkByte b).sampleTimer = s.sampleTimer := (s.linkByte_keeps b).2.2.1
@[simp] theorem State.linkByte_atExpiry (s : State) (b : Byte) : (s.linkByte b).atExpiry = s.atExpiry := (s.linkByte_keeps b).2.2.2.1
@[simp] theorem State.linkByte_unitCounter (s : State) (b : Byte) : (s.linkByte b).unitCounter = s.unitCounter := (s.linkByte_keeps b).2.2.2.2.1
@[simp] theorem State.linkByte_refclkRunning (s : State) (b : Byte) : (s.linkByte b).refclkRunning = s.refclkRunning := (s.linkByte_keeps b).2.2.2.2.2.1
@[simp] theorem State.linkByte_resetLow (s : State) (b : Byte) : (s.linkByte b).resetLow = s.resetLow := (s.linkByte_keeps b).2.2.2.2.2.2.1
@[simp] theorem State.linkByte_inReset (s : State) (b : Byte) : (s.linkByte b).inReset = s.inReset := (s.linkByte_keeps b).2.2.2.2.2.2.2.1
@[simp] theorem State.linkByte_out (s : State) (b : Byte) : (s.linkByte b).out = s.out := (s.linkByte_keeps b).2.2.2.2.2.2.2.2.1
@[simp] theorem State.linkByte_draws (s : State) (b : Byte) : (s.linkByte b).draws = s.draws := (s.linkByte_keeps b).2.2.2.2.2.2.2.2.2.1
@[simp] theorem State.linkByte_pending (s : State) (b : Byte) : (s.linkByte b).pending = s.pending := (s.linkByte_keeps b).2.2.2.2.2.2.2.2.2.2

/-! What `State.mcsFall` leaves unchanged. -/

theorem State.mcsFall_keeps (s : State) :
    (s.mcsFall).windows = s.windows ∧
    (s.mcsFall).mon = s.mon ∧
    (s.mcsFall).sampleCode = s.sampleCode ∧
    (s.mcsFall).mask = s.mask ∧
    (s.mcsFall).contexts = s.contexts ∧
    (s.mcsFall).flight = s.flight ∧
    (s.mcsFall).hazard = s.hazard ∧
    (s.mcsFall).nomon = s.nomon ∧
    (s.mcsFall).released = s.released ∧
    (s.mcsFall).contention = s.contention ∧
    (s.mcsFall).replies = s.replies ∧
    (s.mcsFall).notices = s.notices ∧
    (s.mcsFall).overflow = s.overflow ∧
    (s.mcsFall).discardMark = s.discardMark ∧
    (s.mcsFall).sampleTimer = s.sampleTimer ∧
    (s.mcsFall).sampleLength = s.sampleLength ∧
    (s.mcsFall).atExpiry = s.atExpiry ∧
    (s.mcsFall).unitCounter = s.unitCounter ∧
    (s.mcsFall).refclkRunning = s.refclkRunning ∧
    (s.mcsFall).resetLow = s.resetLow ∧
    (s.mcsFall).inReset = s.inReset ∧
    (s.mcsFall).out = s.out ∧
    (s.mcsFall).draws = s.draws ∧
    (s.mcsFall).pending = s.pending := by
  unfold State.mcsFall; split_ifs <;> simp
@[simp] theorem State.mcsFall_windows (s : State) : (s.mcsFall).windows = s.windows := (s.mcsFall_keeps).1
@[simp] theorem State.mcsFall_mon (s : State) : (s.mcsFall).mon = s.mon := (s.mcsFall_keeps).2.1
@[simp] theorem State.mcsFall_sampleCode (s : State) : (s.mcsFall).sampleCode = s.sampleCode := (s.mcsFall_keeps).2.2.1
@[simp] theorem State.mcsFall_mask (s : State) : (s.mcsFall).mask = s.mask := (s.mcsFall_keeps).2.2.2.1
@[simp] theorem State.mcsFall_contexts (s : State) : (s.mcsFall).contexts = s.contexts := (s.mcsFall_keeps).2.2.2.2.1
@[simp] theorem State.mcsFall_flight (s : State) : (s.mcsFall).flight = s.flight := (s.mcsFall_keeps).2.2.2.2.2.1
@[simp] theorem State.mcsFall_hazard (s : State) : (s.mcsFall).hazard = s.hazard := (s.mcsFall_keeps).2.2.2.2.2.2.1
@[simp] theorem State.mcsFall_nomon (s : State) : (s.mcsFall).nomon = s.nomon := (s.mcsFall_keeps).2.2.2.2.2.2.2.1
@[simp] theorem State.mcsFall_released (s : State) : (s.mcsFall).released = s.released := (s.mcsFall_keeps).2.2.2.2.2.2.2.2.1
@[simp] theorem State.mcsFall_contention (s : State) : (s.mcsFall).contention = s.contention := (s.mcsFall_keeps).2.2.2.2.2.2.2.2.2.1
@[simp] theorem State.mcsFall_replies (s : State) : (s.mcsFall).replies = s.replies := (s.mcsFall_keeps).2.2.2.2.2.2.2.2.2.2.1
@[simp] theorem State.mcsFall_notices (s : State) : (s.mcsFall).notices = s.notices := (s.mcsFall_keeps).2.2.2.2.2.2.2.2.2.2.2.1
@[simp] theorem State.mcsFall_overflow (s : State) : (s.mcsFall).overflow = s.overflow := (s.mcsFall_keeps).2.2.2.2.2.2.2.2.2.2.2.2.1
@[simp] theorem State.mcsFall_discardMark (s : State) : (s.mcsFall).discardMark = s.discardMark := (s.mcsFall_keeps).2.2.2.2.2.2.2.2.2.2.2.2.2.1
@[simp] theorem State.mcsFall_sampleTimer (s : State) : (s.mcsFall).sampleTimer = s.sampleTimer := (s.mcsFall_keeps).2.2.2.2.2.2.2.2.2.2.2.2.2.2.1
@[simp] theorem State.mcsFall_sampleLength (s : State) : (s.mcsFall).sampleLength = s.sampleLength := (s.mcsFall_keeps).2.2.2.2.2.2.2.2.2.2.2.2.2.2.2.1
@[simp] theorem State.mcsFall_atExpiry (s : State) : (s.mcsFall).atExpiry = s.atExpiry := (s.mcsFall_keeps).2.2.2.2.2.2.2.2.2.2.2.2.2.2.2.2.1
@[simp] theorem State.mcsFall_unitCounter (s : State) : (s.mcsFall).unitCounter = s.unitCounter := (s.mcsFall_keeps).2.2.2.2.2.2.2.2.2.2.2.2.2.2.2.2.2.1
@[simp] theorem State.mcsFall_refclkRunning (s : State) : (s.mcsFall).refclkRunning = s.refclkRunning := (s.mcsFall_keeps).2.2.2.2.2.2.2.2.2.2.2.2.2.2.2.2.2.2.1
@[simp] theorem State.mcsFall_resetLow (s : State) : (s.mcsFall).resetLow = s.resetLow := (s.mcsFall_keeps).2.2.2.2.2.2.2.2.2.2.2.2.2.2.2.2.2.2.2.1
@[simp] theorem State.mcsFall_inReset (s : State) : (s.mcsFall).inReset = s.inReset := (s.mcsFall_keeps).2.2.2.2.2.2.2.2.2.2.2.2.2.2.2.2.2.2.2.2.1
@[simp] theorem State.mcsFall_out (s : State) : (s.mcsFall).out = s.out := (s.mcsFall_keeps).2.2.2.2.2.2.2.2.2.2.2.2.2.2.2.2.2.2.2.2.2.1
@[simp] theorem State.mcsFall_draws (s : State) : (s.mcsFall).draws = s.draws := (s.mcsFall_keeps).2.2.2.2.2.2.2.2.2.2.2.2.2.2.2.2.2.2.2.2.2.2.1
@[simp] theorem State.mcsFall_pending (s : State) : (s.mcsFall).pending = s.pending := (s.mcsFall_keeps).2.2.2.2.2.2.2.2.2.2.2.2.2.2.2.2.2.2.2.2.2.2.2
@[simp] theorem State.mcsFall_ctx (s : State) (i : Master) : (s.mcsFall).ctx i = s.ctx i := by
  simp only [State.ctx, State.mcsFall_contexts]
@[simp] theorem State.mcsFall_entry (s : State) (i : EntryIx) : (s.mcsFall).entry i = s.entry i := by
  simp only [State.entry, State.mcsFall_contention]
@[simp] theorem State.mcsFall_window (s : State) (i : WindowIx) : (s.mcsFall).window i = s.window i := by
  simp only [State.window, State.mcsFall_windows]

end Sys2Proof.Machine
end

