-- ==== Sys2Proof/Laws/Specs.lean ====
section
/-! SUPPORT. What each shared operation can do, said once: the records it changes, and how. -/

namespace Sys2Proof.Machine

/-! Access. -/

/-- Two states with the same context of every master have the same contexts. -/
theorem State.contexts_ext {s t : State} (h : ∀ m, s.ctx m = t.ctx m) : s.contexts = t.contexts := by
  ext i hi : 1
  exact h ⟨i, hi⟩

/-- Two states with the same entry at every index have the same contention table. -/
theorem State.contention_ext {s t : State} (h : ∀ e, s.entry e = t.entry e) : s.contention = t.contention := by
  ext i hi : 1
  exact h ⟨i, hi⟩

theorem State.ctx_congr {s t : State} (h : s.contexts = t.contexts) (m : Master) : s.ctx m = t.ctx m := by
  simp only [State.ctx, h]

theorem State.entry_congr {s t : State} (h : s.contention = t.contention) (e : EntryIx) : s.entry e = t.entry e := by
  simp only [State.entry, h]

/-- The entry found for a granule tracks it and is not FREE. -/
theorem State.entryFor_some {s : State} {g : Granule} {e : EntryIx} (h : s.entryFor g = some e) :
    (s.entry e).state ≠ .free ∧ (s.entry e).granule = g := by
  have := List.find?_some h
  simpa using this

/-- No entry is found for a granule only when no non-FREE entry tracks it. -/
theorem State.entryFor_none {s : State} {g : Granule} (h : s.entryFor g = none) (e : EntryIx) :
    (s.entry e).state ≠ .free → (s.entry e).granule ≠ g := by
  have := (List.find?_eq_none.mp h) e (List.mem_finRange e)
  simpa using this

/-- The window found for an address is ACTIVE and covers it. -/
theorem State.classify_some {s : State} {a : Addr} {w : WindowIx} (h : s.classify a = some w) :
    s.active w = true ∧ (s.window w).covers a = true := by
  have := List.find?_some h
  simpa using this

/-- No window is found for an address only when no ACTIVE window covers it. -/
theorem State.classify_none {s : State} {a : Addr} (h : s.classify a = none) (w : WindowIx) :
    s.active w = true → (s.window w).covers a = false := by
  have := (List.find?_eq_none.mp h) w (List.mem_finRange w)
  simpa using this

/-! Notices. -/

/-- A notice handed over is dropped when its kind is masked or it coalesces, appended when the queue has room, and
discarded with OVERFLOW and the discard mark otherwise. -/
theorem State.notify_cases (s : State) (n : Notice) :
    ((s.mask.getLsbD n.kindBit = false ∨ (n.isUntracked = true ∧ s.notices.any Notice.isUntracked = true)) ∧
        s.notify n = s) ∨
      (s.mask.getLsbD n.kindBit = true ∧ s.notices.length < 16 ∧ s.notify n = { s with notices := s.notices ++ [n] }) ∨
      (s.mask.getLsbD n.kindBit = true ∧ 16 ≤ s.notices.length ∧
        s.notify n = { s with overflow := true, discardMark := true }) := by
  unfold State.notify Config.noticeMax
  split_ifs with h1 h2 h3
  · exact .inl ⟨.inl (by simpa using h1), rfl⟩
  · exact .inl ⟨.inr (by simpa using h2), rfl⟩
  · exact .inr (.inl ⟨by simpa using h1, h3, rfl⟩)
  · exact .inr (.inr ⟨by simpa using h1, by omega, rfl⟩)

/-! Reservations. -/

@[simp] theorem State.clearReservations_ctx (s : State) (p : Master → Bool) (m : Master) :
    (s.clearReservations p).ctx m = if p m then { s.ctx m with reservation := none } else s.ctx m := by
  exact (State.ctx_congr (s := s.clearReservations p)
    (t := s.mapCtx fun m c => if p m then { c with reservation := none } else c)
    (by simp only [State.clearReservations]) m).trans (State.ctx_mapCtx ..)

@[simp] theorem State.clearReservations_flight (s : State) (p : Master → Bool) :
    (s.clearReservations p).flight = s.flight.map (Flight.unmark p) := by
  simp only [State.clearReservations]

@[simp] theorem State.clearReservations_released (s : State) (p : Master → Bool) :
    (s.clearReservations p).released = s.released.map (Released.disarm fun r => p r.master) := by
  simp only [State.clearReservations]

@[simp] theorem State.clearReservation_ctx (s : State) (m i : Master) :
    (s.clearReservation m).ctx i = if i = m then { s.ctx i with reservation := none } else s.ctx i := by
  simp [State.clearReservation]

/-- A linked read that arms leaves its master's reservation on the granule. -/
@[simp] theorem State.arm_ctx (s : State) (m i : Master) (t : Tag) (a : Addr) (g : Granule) (h : Option EntryIx) :
    (s.arm m t a g h).ctx i = if i = m then { s.ctx i with reservation := some g } else s.ctx i := by
  simp only [State.arm, State.track_ctx, State.ctx_updCtx]
  rfl

/-! Hazard list and grant queues. -/

/-- The joins of hazard reads: each chosen master's parked read names the entry from now on. -/
theorem State.hazardToQueue_ctx (s : State) (e : EntryIx) (p : Master → Bool) (m : Master) :
    (s.hazardToQueue e p).ctx m =
      if m ∈ s.hazard ∧ p m = true ∧ s.parkedOn m (s.entry e).granule = true then
        { s.ctx m with parked := (s.ctx m).parked.map fun r => { r with reason := .queue e } }
      else s.ctx m := by
  rw [State.ctx_congr (s := s.hazardToQueue e p) (t := s.mapCtx fun m c =>
    if m ∈ s.hazard.filter (fun m => p m && s.parkedOn m (s.entry e).granule) then
      { c with parked := c.parked.map fun r => { r with reason := .queue e } } else c)
    (by simp only [State.hazardToQueue, State.updEntry, State.mapEntries]), State.ctx_mapCtx]
  simp only [List.mem_filter, Bool.and_eq_true]

/-- The joins of hazard reads: the entry's queue grows at its tail, in hazard-list order; no other entry changes. -/
theorem State.hazardToQueue_entry (s : State) (e i : EntryIx) (p : Master → Bool) :
    (s.hazardToQueue e p).entry i =
      if i = e then
        { s.entry i with
          queue := (s.entry i).queue ++ s.hazard.filter fun m => p m && s.parkedOn m (s.entry e).granule }
      else s.entry i := by
  rw [State.entry_congr (s := s.hazardToQueue e p) (t := s.updEntry e fun x =>
    { x with queue := x.queue ++ s.hazard.filter (fun m => p m && s.parkedOn m (s.entry e).granule) })
    (by simp only [State.hazardToQueue, State.updEntry, State.mapEntries, State.mapCtx_entry]),
    State.entry_updEntry]

/-- The chosen hazard reads leave the hazard list. -/
theorem State.hazardToQueue_hazard (s : State) (e : EntryIx) (p : Master → Bool) :
    (s.hazardToQueue e p).hazard = s.hazard.filter fun m => !(p m && s.parkedOn m (s.entry e).granule) := by
  simp only [State.hazardToQueue]

/-- An entry without a holder is left as it is. -/
theorem State.endHolding_of_none {s : State} {e : EntryIx} (h : (s.entry e).holder = none) : s.endHolding e = s := by
  simp only [State.endHolding, h]

/-- The end of a holdership: the entry has no holder and tenure 0, and no other entry changes. -/
theorem State.endHolding_entry {s : State} {e : EntryIx} {m : Master} (h : (s.entry e).holder = some m) (i : EntryIx) :
    (s.endHolding e).entry i =
      if i = e then
        { s.entry i with
          holder := none, tenure := 0
          queue := (s.entry i).queue ++ s.hazard.filter fun k => decide (k = m) && s.parkedOn k (s.entry e).granule }
      else s.entry i := by
  have own : ∀ (t : State) (k : Master) (g : Granule), ((t.clearOwn m g).ctx k).parked = (t.ctx k).parked := by
    intro t k g; unfold State.clearOwn; split_ifs
    · simp only [State.clearReservation_ctx]; split_ifs <;> rfl
    · rfl
  simp only [State.endHolding, h, State.hazardToQueue_entry]
  have park : ∀ k, (((((s.updEntry e fun x => { x with holder := none, tenure := 0 }).updCtx m
      fun c => { c with holdership := none }).clearOwn m (s.entry e).granule).forgetHolder m e).parkedOn k
        (s.entry e).granule) = s.parkedOn k (s.entry e).granule := by
    intro k
    have : ∀ t : State, (t.forgetHolder m e).ctx k = t.ctx k := fun _ => rfl
    simp only [State.parkedOn, this, own, State.ctx_updCtx, State.updEntry_ctx]
    split_ifs <;> rfl
  by_cases hi : i = e
  · subst hi; simp [park]
  · simp [hi]

/-- A grant is made to the head of the queue, when the grant conditions hold, and nothing changes otherwise. -/
theorem State.attemptGrant_cases (s : State) (e : EntryIx) :
    s.attemptGrant e = s ∨
      ∃ m, (s.entry e).queue.head? = some m ∧ (s.entry e).serving = true ∧ (s.entry e).holder = none ∧
        s.covered (s.entry e).granule = false ∧ s.attemptGrant e = s.grant e m := by
  unfold State.attemptGrant
  split
  · exact .inl rfl
  · rename_i m hm
    split_ifs with h
    · simp only [State.grantable, Bool.and_eq_true, Bool.not_eq_true'] at h
      exact .inr ⟨m, hm, h.1.1.1, by simpa using h.1.1.2, h.2, rfl⟩
    · exact .inl rfl

/-- The DRAIN exit is taken only from DRAIN, without holder and waiters. -/
theorem State.drainExit_cases (s : State) (e : EntryIx) :
    s.drainExit e = s ∨
      ((s.entry e).state = .drain ∧ (s.entry e).holder = none ∧ (s.entry e).queue = [] ∧
        s.drainExit e =
          (s.updEntry e fun x => { x with state := .watch }).notify (.granuleCool e (s.entry e).granule)) := by
  unfold State.drainExit
  split_ifs with h
  · exact .inr ⟨h.1, h.2.1, h.2.2, rfl⟩
  · exact .inl rfl

/-! Contention events. -/

/-- A contention event counts on the granule's entry, allocates or replaces one, or is untracked. -/
theorem State.contentionEvent_cases (s : State) (g : Granule) :
    ((s.window g.window).queuedAllowed = false ∧ s.contentionEvent g = s) ∨
      (∃ e, s.entryFor g = some e ∧
        s.contentionEvent g = s.updEntry e fun x => { x with count := min (x.count + 1) 15 }) ∨
      (∃ e, s.entryFor g = none ∧ (s.freeEntry = some e ∨ (s.freeEntry = none ∧ s.coldest = some e)) ∧
        s.contentionEvent g = s.updEntry e fun _ => Entry.allocated g) ∨
      (s.entryFor g = none ∧ s.freeEntry = none ∧ s.coldest = none ∧ s.contentionEvent g = s.notify (.untracked g)) := by
  unfold State.contentionEvent Config.countMax
  split_ifs with h
  · exact .inl ⟨by simpa using h, rfl⟩
  · split
    · rename_i e he; exact .inr (.inl ⟨e, he, rfl⟩)
    · rename_i hn
      split
      · rename_i e he; exact .inr (.inr (.inl ⟨e, hn, .inl he, rfl⟩))
      · rename_i hf
        split
        · rename_i e he; exact .inr (.inr (.inl ⟨e, hn, .inr ⟨hf, he⟩, rfl⟩))
        · rename_i hc; exact .inr (.inr (.inr ⟨hn, hf, hc, rfl⟩))

/-! Window disable. -/

@[simp] theorem State.dissolve_ctx (s : State) (p : WindowIx → Bool) (m : Master) :
    (s.dissolve p).ctx m = s.keptParts p (s.ctx m) := by
  rw [State.ctx_congr (s := s.dissolve p) (t := s.mapCtx fun _ c => s.keptParts p c)
    (by simp only [State.dissolve, State.mapEntries]), State.ctx_mapCtx]

@[simp] theorem State.dissolve_entry (s : State) (p : WindowIx → Bool) (e : EntryIx) :
    (s.dissolve p).entry e = if p (s.entry e).granule.window then Entry.free else s.entry e := by
  rw [State.entry_congr (s := s.dissolve p) (t := s.mapEntries fun _ x => if p x.granule.window then Entry.free else x)
    (by simp only [State.dissolve, State.mapEntries, State.mapCtx_entry]), State.entry_mapEntries]

/-! The channels. -/

theorem State.replyRoom_iff (s : State) : s.replyRoom = true ↔ s.replies.length < 4 := decide_eq_true_iff

theorem State.flightRoom_iff (s : State) : s.flightRoom = true ↔ s.flight.length < 24 := decide_eq_true_iff

/-- Near request ready, said once. -/
theorem State.requestReady_iff (s : State) (d : Disposition) (farFree : Bool) :
    s.requestReady d farFree = true ↔
      s.inReset = false ∧ s.replies.length < 4 ∧
        (d.forwards = true → farFree = true ∧ s.released = []) ∧ (d.tracked = true → s.flight.length < 24) := by
  cases h : d.forwards <;> cases k : d.tracked <;>
    simp [State.requestReady, State.replyRoom_iff, State.flightRoom_iff, h, k, and_assoc]

/-- Withdrawal ready, said once. -/
theorem State.withdrawReady_iff (s : State) (m : Master) (t : Tag) :
    s.withdrawReady m t = true ↔
      s.inReset = false ∧ ∀ p, (s.ctx m).parked = some p → p.tag = t → s.replies.length < 4 := by
  cases h : (s.ctx m).parked with
  | none => simp [State.withdrawReady, State.withdrawn, h]
  | some p =>
    by_cases k : p.tag = t <;>
      simp [State.withdrawReady, State.withdrawn, State.replyRoom_iff, h, k, Option.filter]

/-- Far response ready, said once. -/
theorem State.farResponseReady_iff (s : State) (replyReady : Bool) :
    s.farResponseReady replyReady = true ↔ s.inReset = true ∨ (s.replies = [] ∧ replyReady = true) := by
  simp [State.farResponseReady]

/-- Nothing is presented in reset. -/
theorem State.presented_in_reset {s : State} (h : s.inReset = true) (head : Option Request) (offered : Option FarResponse) :
    s.farRequestPresented head = none ∧ s.nearReplyPresented offered = none := by
  simp [State.farRequestPresented, State.nearReplyPresented, h]

/-- While a released read waits, the arbiter's choice is presented. -/
theorem State.farRequestPresented_released {s : State} (h : s.inReset = false) (hr : s.released ≠ [])
    (head : Option Request) : s.farRequestPresented head = s.arbiter.map Released.toFar := by
  simp [State.farRequestPresented, h, hr]

/-! The pins. -/

/-- A REFCLK edge ends the reset exactly when RESET_N is high. -/
theorem State.seeRelease_ends_reset (s : State) : s.seeRelease.inReset = false ↔ s.inReset = false ∨ s.resetLow = false := by
  cases h : s.inReset <;> simp [h]

/-! The timebase. -/

/-- An expiry puts the timer back and latches the length; the moment of the expiry begins. -/
theorem State.expire_timebase (s : State) :
    s.expire.sampleTimer = 0 ∧ s.expire.sampleLength = Config.samplePeriod s.sampleCode ∧ s.expire.atExpiry = true := by
  unfold State.expire
  exact ⟨foldl_keeps State.sampleTimer (fun a e => by simp) _ _, foldl_keeps State.sampleLength (fun a e => by simp) _ _,
    foldl_keeps State.atExpiry (fun a e => by simp) _ _⟩

/-- A CONTROL write gives the period that begins at an expiry of the same moment its new length, and no other. -/
theorem State.writeControl_sampleLength (s : State) (v : Word32) :
    (s.writeControl v).sampleLength = if s.atExpiry then Config.samplePeriod (v.extractLsb' 4 2) else s.sampleLength := by
  unfold State.writeControl; dsimp only; split_ifs <;> simp_all

end Sys2Proof.Machine
end

