-- ==== Sys2Proof/WellFormed.lean ====
section
/-! DEFINITION. Which terms of `Instr` are commands of the table: the checks on operands that their types leave open. -/

namespace Sys2Proof

/-- A write's data and strobes lie within its size: one strobe and one byte per byte of the size (R114). Size code 7
is no size, and its data are discarded (R118, R119). -/
def WellFormed.fits (z : SizeCode) (d : Data) (b : Strobes) : Bool :=
  z = 7 || (decide (d.toNat < 256 ^ (2 ^ z.val)) && decide (b.toNat < 2 ^ (2 ^ z.val)))

/-- A row other than SHORT_FRAME that starts and ends its frame completes its command byte (R145). A frame that is left
open may have clocked nothing yet: events can then be taken between its status byte, sampled at the fall of MCS_N, and the
end of its command byte (R143; 09, Formats, note 1).

DESIGN CHOICE (log entry 11): a frame is left open between two bytes only, so such an event stands before the first bit of
the command byte; the bits clocked before or after it are not told apart. -/
def WellFormed.clocked (f : Frame) : Bool := !f.starts || !f.ends || decide (1 ≤ f.bytes)

/-- WRITE_REGISTER is the row of every address but CONTROL's and the ENABLE registers', which have rows of their own. -/
def WellFormed.plainRegister (a : Byte) : Bool :=
  match decodeRegister a with
  | some .control => false
  | some (.enable _) => false
  | _ => true

/-- UNKNOWN_COMMAND's byte is no listed code (R144). -/
def WellFormed.unknown (c : Byte) : Bool := (decodeCommand c).isNone

/-- Whether a term is a command of the table. -/
def Instr.wellFormed (i : Instr) : Bool :=
  match i with
  | .linkedRead _ _ _ _ _ _ => true
  | .conditionalWrite _ _ _ _ z d b _ => WellFormed.fits z d b
  | .plainRead _ _ _ _ _ => true
  | .plainWrite _ _ _ z d b _ => WellFormed.fits z d b
  | .withdraw _ _ => true
  | .farResponse _ _ _ _ _ => true
  | .replyQueueSend => true
  | .releasedReadForwarding => true
  | .samplePeriodExpiry => true
  | .tenureUnit => true
  | .tenureExpiry _ => true
  | .hardReset => true
  | .resetRelease => true
  | .readRegister _ f => WellFormed.clocked f
  | .writeRegister a _ f => WellFormed.plainRegister a && WellFormed.clocked f
  | .writeControl _ f => WellFormed.clocked f
  | .enableSet _ _ f => WellFormed.clocked f
  | .enableClear _ _ f => WellFormed.clocked f
  | .readEntry _ f => WellFormed.clocked f
  | .readContext _ f => WellFormed.clocked f
  | .takeNotice f => WellFormed.clocked f
  | .readStatus f => WellFormed.clocked f
  | .clearAll f => WellFormed.clocked f
  | .releaseHolder _ f => WellFormed.clocked f
  | .unknownCommand c f => WellFormed.unknown c && WellFormed.clocked f
  | .shortFrame _ => true
  | .refclkStops => true
  | .refclkRunsAgain => true

end Sys2Proof
end

