-- ==== Sys2Proof/Tests/Slice0.lean ====
section
/-! SUPPORT. Tests from the worked examples and tables of the spec, ill-formed terms that WellFormed refuses, and for each
obligation with hypotheses a state and operands that meet them. -/

namespace Sys2Proof.Tests

set_option Elab.async false

open Sys2Proof Sys2Proof.Machine Sys2Proof.Claim

/-! States. -/

/-- The next state of an outcome; every command answers one. -/
def after (o : Host.Outcome State Fault Refusal) : State :=
  match o with
  | .next u => u
  | _ => State.reset

/-- Window 0 of the examples, with the parameters of the worked episode of chapter 05. -/
def w0 : Window :=
  { Window.reset with enable := true, base := 0x40000000#32, sizeCode := 8#5, granuleCode := 2#2, queuedAllowed := true,
                      th := 8#6 }

/-- Window 1 of the examples. -/
def w1 : Window := { Window.reset with enable := true, base := 0x40100000#32 }

/-- Window 3 of the examples, disabled window 2 beside it. -/
def w3 : Window :=
  { Window.reset with enable := true, base := 0x41000000#32, sizeCode := 4#5, granuleCode := 2#2, queuedAllowed := true,
                      th := 8#6, tenure := 5#8 }

/-- MON on, windows 0, 1 and 3 enabled, everything else as after reset. -/
def s0 : State := { State.reset with mon := true, windows := #v[w0, w1, Window.reset, w3] }

/-- A granule of window 0, one of window 1, one of window 3. -/
def g0 : Granule := { base := 0x40002000#32, window := 0 }
def g1 : Granule := { base := 0x40100050#32, window := 1 }
def g3 : Granule := { base := 0x41000800#32, window := 3 }

/-- A contention entry of a granule in a state. -/
def entryOf (st : Mode) (g : Granule) (h : Option Master) (q : List Master) : Entry :=
  { state := st, granule := g, fast := 12288, slow := 128, warm := true, hot := decide (st = .queued), count := 2,
    holder := h, tenure := if h.isSome then 1 else 0, queue := q }

/-- A read waiting in the queue of entry 7. -/
def waiting (t : Tag) : Context :=
  { reservation := none, parked := some (parkedAs t 0x41000800#32 2 g3 (.queue 7)), holdership := none }

/-- The context of the holder of entry 7. -/
def holding (r : Option Granule) : Context := { reservation := r, parked := none, holdership := some 7 }

/-- The state with entry 7 on g3, master 6 its holder with a reservation, and master 11 waiting. -/
def sQ : State :=
  { s0 with
    contention := s0.contention.set 7 (entryOf .queued g3 (some 6) [11])
    contexts := (s0.contexts.set 6 (holding (some g3))).set 11 (waiting 0) }

/-- The same with nobody waiting. -/
def sH (st : Mode) : State :=
  { s0 with
    contention := s0.contention.set 7 (entryOf st g3 (some 6) [])
    contexts := s0.contexts.set 6 (holding (some g3)) }

/-- Entry 7 without holder: its queue as given. -/
def sN (st : Mode) (q : List Master) : State :=
  { s0 with contention := s0.contention.set 7 (entryOf st g3 none q), contexts := s0.contexts.set 11 (waiting 0) }

/-- A write of master 4 in flight on a granule. -/
def writing (k : FlightKind) (g : Granule) (size : Nat) : Flight :=
  { kind := k, master := 4, tag := 1, address := g.base, range := { first := g.base, last := g.base, size := size } }

/-- The state with such a write in flight. -/
def inFlight (s : State) (f : Flight) : State := { s with flight := [f] }

/-- A state with n entries in the flight list. -/
def filled (s : State) (n : Nat) : State :=
  { s with flight := List.replicate n { kind := .lread false none, master := 15, tag := 7, address := 0#32,
                                        range := { first := 0#32, last := 0#32, size := 64 } } }

/-- Four queued replies, the first of them master 5's. -/
def fourReplies (s : State) : State :=
  { s with replies := [⟨5, 0, .exfail⟩, ⟨2, 1, .seqerr⟩, ⟨6, 0, .seqerr⟩, ⟨6, 1, .exfail⟩] }

/-! WellFormed refuses. -/

theorem test_wellFormed_data_past_size :
    Instr.wellFormed (.plainWrite 0 0 0x40000000#32 2 0x100000000#512 0xF#64 true) = false := by decide +kernel
theorem test_wellFormed_strobes_past_size :
    Instr.wellFormed (.conditionalWrite 0 0 .write 0x40000000#32 2 1#512 0x10#64 true) = false := by decide +kernel
theorem test_wellFormed_no_command_byte : Instr.wellFormed (.takeNotice ⟨true, 0, true⟩) = false := by decide
theorem test_wellFormed_open_in_command_byte : Instr.wellFormed (.readStatus ⟨true, 0, false⟩) = true := by decide
theorem test_wellFormed_control_row : Instr.wellFormed (.writeRegister 0x01#8 0#32 (whole 6)) = false := by decide
theorem test_wellFormed_enable_row : Instr.wellFormed (.writeRegister 0x17#8 0#32 (whole 6)) = false := by decide
theorem test_wellFormed_known_code : Instr.wellFormed (.unknownCommand 0x5C#8 (whole 1)) = false := by decide
theorem test_wellFormed_accepts :
    Instr.wellFormed (.conditionalWrite 3 1 .write 0x40002000#32 2 3#512 0xF#64 true) = true := by decide +kernel

/-! Chapter 01: the classification and enable examples. -/

theorem test_classify_examples :
    s0.classify 0x40001234#32 = some 0 ∧ (s0.granuleOf 0 0x40001234#32).base = 0x40001200#32 ∧
      s0.classify 0x40100038#32 = some 1 ∧ (s0.granuleOf 1 0x40100038#32).base = 0x40100030#32 ∧
      s0.writeRange 1 0x40100040#32 6 = { first := 0x40100040#32, last := 0x40100070#32, size := 16 } ∧
      s0.refusal (linkedRequest 6 0 .read 0x40100040#32 6) = some .splitGranule ∧
      s0.classify 0x40101000#32 = none ∧ s0.classify 0x3FFFFFFC#32 = none := by decide +kernel

/-- Window 2 of the refused enables, attempt by attempt. -/
def attempt (base : Addr) (size : BitVec 5) (th : BitVec 6) : State :=
  s0.updWindow 2 fun r => { r with base := base, sizeCode := size, th := th }

theorem test_enable_attempts :
    (attempt 0x40080000#32 7#5 16#6).mayEnable 2 = false ∧ (attempt 0x40208000#32 4#5 16#6).mayEnable 2 = false ∧
      (attempt 0x40200000#32 4#5 2#6).mayEnable 2 = false ∧ (attempt 0x40200000#32 4#5 3#6).mayEnable 2 = true := by
  decide +kernel

theorem test_enable_set_taken_and_refused :
    ((after (exec (.enableSet 2 0#31 (whole 6)) (attempt 0x40200000#32 4#5 3#6))).active 2 = true) ∧
      ((after (exec (.enableSet 2 0#31 (whole 6)) (attempt 0x40200000#32 4#5 2#6))).link.refused = true) := by
  decide +kernel

/-! Chapters 02 to 04: linked reads, conditional writes, hazards. -/

theorem test_linked_read_arms :
    (after (exec (.linkedRead 2 1 .read 0x40001200#32 2 true) s0)).ctx 2 =
      { reservation := some { base := 0x40001200#32, window := 0 }, parked := none, holdership := none } := by
  decide +kernel

theorem test_linked_read_parks :
    (after (exec (.linkedRead 2 2 .read 0x40002000#32 2 false) (inFlight s0 (writing .cwrite g0 64)))).hazard = [2] := by
  decide +kernel

theorem test_conditional_write_fails_and_allocates :
    let u := after (exec (.conditionalWrite 7 3 .write 0x40002000#32 2 7#512 0xF#64 false) (inFlight s0 (writing .cwrite g0 64)))
    (u.entry 0).state = .watch ∧ (u.entry 0).count = 1 ∧ u.replies = [⟨7, 3, .exfail⟩] := by decide +kernel

/-- The overlapping writes of chapter 04: master 0's write of 64 bytes and master 1's of 16, both hazard reads behind. -/
def overlapping : State :=
  { s0 with
    flight := [{ kind := .write, master := 0, tag := 0, address := 0x40100040#32,
                 range := { first := 0x40100040#32, last := 0x40100070#32, size := 16 } },
               { kind := .write, master := 1, tag := 1, address := 0x40100050#32,
                 range := { first := 0x40100050#32, last := 0x40100050#32, size := 16 } }]
    hazard := [4, 2]
    contexts := (s0.contexts.set 4
        { reservation := none, parked := some (parkedAs 2 0x40100058#32 2 g1 .hazard), holdership := none }).set 2
        { reservation := none, holdership := none
          parked := some (parkedAs 0 0x40100064#32 2 { base := 0x40100060#32, window := 1 } .hazard) } }

theorem test_write_removal_releases_uncovered :
    let u := after (exec (.farResponse 0 0 .ok 0#512 true) overlapping)
    u.hazard = [4] ∧ (u.released.map fun r => (r.master, r.tag, r.mode)) = [(2, 0, .arm none)] ∧
      u.out.nearReply = some (zeroReply 0 0 .okay) := by decide +kernel

theorem test_plain_write_clears_reservations :
    (after (exec (.plainWrite 9 0 0x41000810#32 3 0#512 0#64 true) (sH .queued))).ctx 6 = holding none := by
  decide +kernel

theorem test_withdraw_cancels :
    let u := after (exec (.withdraw 11 0) sQ)
    (u.entry 7).queue = [] ∧ u.replies = [⟨11, 0, .cancelled⟩] ∧ (u.ctx 11).parked = none := by decide +kernel

/-! Chapter 05: the filters, the worked episode, the full table. -/

theorem test_fast_filter_examples :
    nextFast 1#2 0 4096 = 2048 ∧ nextFast 1#2 2049 4096 = 3073 ∧ nextFast 1#2 4095 4096 = 4096 ∧
      nextFast 1#2 13568 0 = 11872 ∧ nextFast 1#2 9 0 = 7 ∧ nextFast 1#2 1 0 = 0 := by decide

/-- The entry of the worked episode with a count. -/
def episode (st : Mode) (f v n : Nat) (hot : Bool) : Entry :=
  { entryOf st { base := 0x40004000#32, window := 0 } none [] with fast := f, slow := v, count := n, hot := hot }

theorem test_episode_rises :
    let x := (episode .watch 8192 64 4 false).sampled w0
    x.fast = 12288 ∧ x.slow = 128 ∧ x.warm = true ∧ x.hot = true := by decide

theorem test_episode_cools :
    let x := (episode .queued 6958 128 0 true).sampled w0
    x.fast = 6088 ∧ x.slow = 128 ∧ x.warm = false ∧ x.hot = false := by decide

/-- Entry 2 at the second expiry of the episode, with a reservation of master 8 on its granule. -/
def turningHot : State :=
  { s0 with
    contention := s0.contention.set 2 (episode .watch 8192 64 4 false)
    contexts := s0.contexts.set 8
      { reservation := some { base := 0x40004000#32, window := 0 }, parked := none, holdership := none } }

theorem test_expiry_enters_queued :
    let u := after (exec .samplePeriodExpiry turningHot)
    (u.entry 2).state = .queued ∧ (u.ctx 8).reservation = none ∧
      u.notices = [.granuleHot 2 { base := 0x40004000#32, window := 0 }] := by decide +kernel

/-- The full table of chapter 05. -/
def fullTable : State :=
  { s0 with
    contention := Vector.ofFn fun e =>
      let x := entryOf .queued { base := BitVec.ofNat 32 (0x40008000 + 64 * e.val), window := 0 } none []
      if e = 4 then { x with state := .watch, hot := false, fast := 300, slow := 290, warm := false }
      else if e = 9 then { x with state := .watch, hot := false, fast := 120, slow := 400, warm := false }
      else if e = 17 then { x with state := .watch, hot := false, fast := 40, slow := 10 }
      else if e = 30 then { x with state := .watch, hot := false, fast := 120, slow := 130, warm := false }
      else x }

theorem test_full_table_replaces_entry_9 : (fullTable.contentionEvent g0).entry 9 = Entry.allocated g0 := by decide +kernel

/-! Chapter 06: grants and the tenure. -/

theorem test_join_of_empty_queue_is_granted :
    let u := after (exec (.linkedRead 6 0 .read 0x41000800#32 2 true) (sN .queued []))
    (u.entry 7).holder = some 6 ∧ (u.entry 7).tenure = 5 ∧ u.released.map Released.holderEntry = [some 7] := by
  decide +kernel

theorem test_tenure_expiry_grants_next :
    let u := after (exec (.tenureExpiry 7) sQ)
    (u.entry 7).holder = some 11 ∧ u.notices = [.tenureExpired 6 7 0x41000800#32] ∧ (u.ctx 6).reservation = none := by
  decide +kernel

theorem test_tenure_unit_expires : (after (exec .tenureUnit sQ)).notices = [.tenureExpired 6 7 0x41000800#32] := by
  decide +kernel

/-- The holder's hazard re-read behind a write in flight, master 11 waiting. -/
def sR : State :=
  { sQ with
    flight := [writing .write g3 64]
    hazard := [6]
    contexts := sQ.contexts.set 6
      { reservation := none, parked := some (parkedAs 3 0x41000800#32 2 g3 .hazard), holdership := some 7 } }

theorem test_release_moves_hazard_reread :
    let u := after (exec (.releaseHolder 7#8 (whole 2)) sR)
    (u.entry 7).queue = [11, 6] ∧ u.hazard = [] ∧ (u.entry 7).holder = none ∧
      (u.ctx 6).parked = some (parkedAs 3 0x41000800#32 2 g3 (.queue 7)) := by decide +kernel

theorem test_dissolution_releases_plain :
    let u := after (exec (.enableClear 3 0#31 (whole 6)) sQ)
    u.entry 7 = Entry.free ∧ u.ctx 6 = Context.empty ∧ (u.released.map fun r => (r.master, r.mode)) = [(11, .plain)] := by
  decide +kernel

theorem test_release_holder_refused_when_watch :
    (after (exec (.releaseHolder 0#8 (whole 2)) s0)).link.refused = true := by decide +kernel

/-! Chapter 07: the ports. -/

theorem test_full_reply_queue :
    (after (exec (.plainRead 7 2 0x50000000#32 2 true) (fourReplies s0))).out.taken = false ∧
      (after (exec (.withdraw 9 3) (fourReplies s0))).out.taken = true := by decide +kernel

theorem test_reply_queue_sends_oldest :
    (after (exec .replyQueueSend (fourReplies s0))).out.nearReply = some (zeroReply 5 0 .exfail) := by decide +kernel

theorem test_misaligned_plain_read :
    (after (exec (.plainRead 2 1 0x40100102#32 2 true) s0)).notices = [.protocol 2 1 0x40100102#32 .misaligned] := by
  decide +kernel

/-- The arbiter of chapter 07 with a full flight list: m3 ARM, m12 PLAIN, m9 PLAIN. -/
def arbiterFull : State :=
  { filled s0 24 with
    released := [⟨3, 0, 0x40002000#32, 2, g0, .arm none⟩, ⟨12, 0, 0x41000800#32, 2, g3, .plain⟩,
                 ⟨9, 0, 0x41000800#32, 2, g3, .plain⟩] }

theorem test_arbiter_passes_arm_when_full :
    let u := after (exec .releasedReadForwarding arbiterFull)
    u.out.farRequest = some (farRead 9 0 0x41000800#32 2) ∧ u.nomonMark 9 0 = true ∧
      u.released.map Released.master = [3, 12] := by decide +kernel

theorem test_far_response_waits_for_replies :
    (after (exec (.farResponse 4 2 .ok 5#512 true) (fourReplies s0))).out.taken = false := by decide +kernel

/-! Chapters 08 and 09: notices and frames. -/

theorem test_discard_sets_overflow :
    let u := ({ s0 with notices := List.replicate 16 (.granuleHot 2 g0) }).notify (.memoryError 3 1 0#32)
    u.overflow = true ∧ u.discardMark = true ∧ u.notices.length = 16 := by decide +kernel

theorem test_frames_around_a_refusal :
    let u := after (exec (.writeRegister 0x12#8 0x00640808#32 (whole 6)) s0)
    let v := after (exec (.enableClear 0 0#31 (whole 4)) u)
    u.link.mso.head? = some 0x81#8 ∧ u.window 0 = w0 ∧ v.link.mso.head? = some 0x85#8 ∧ v.active 0 = true := by
  decide +kernel

theorem test_write_limits_taken :
    let u := after (exec (.writeRegister 0x1A#8 0x00640808#32 (whole 6)) s0)
    ((u.window 2).th, (u.window 2).hy, (u.window 2).tenure) = (8#6, 8#5, 100#8) := by decide +kernel

theorem test_read_register_reset_values :
    (after (exec (.readRegister 0x01#8 (whole 6)) State.reset)).link.mso = [0x80#8, 0x00#8, 0x00#8, 0x3F#8, 0x00#8, 0x10#8] ∧
      (after (exec (.readRegister 0x11#8 (whole 6)) State.reset)).link.mso = [0x80#8, 0x00#8, 0x00#8, 0x01#8, 0x20#8, 0x00#8] := by
  decide +kernel

theorem test_read_register_id_and_limits :
    (after (exec (.readRegister 0x00#8 (whole 6)) State.reset)).link.mso = [0x80#8, 0x00#8, 0x4B#8, 0x16#8, 0x40#8, 0x01#8] ∧
      (after (exec (.readRegister 0x12#8 (whole 6)) State.reset)).link.mso = [0x80#8, 0x00#8, 0x00#8, 0x32#8, 0x04#8, 0x10#8] := by
  decide +kernel

theorem test_read_entry_record :
    (after (exec (.readEntry 7#8 (whole 16)) sQ)).link.mso =
      [0x81#8, 0x00#8, 0xBC#8, 0x41#8, 0x00#8, 0x08#8, 0x00#8, 0x30#8, 0x00#8, 0x00#8, 0x80#8, 0x20#8, 0x86#8, 0x01#8,
       0x01#8, 0x0B#8] := by decide +kernel

theorem test_read_context_record :
    (after (exec (.readContext 11#8 (whole 18)) sQ)).link.mso =
      [0x81#8, 0x00#8, 0x40#8, 0x00#8, 0x00#8, 0x00#8, 0x00#8, 0x0B#8, 0x87#8, 0x41#8, 0x00#8, 0x08#8, 0x00#8, 0x41#8,
       0x00#8, 0x08#8, 0x00#8, 0x00#8] := by decide +kernel

theorem test_take_notice_record :
    (after (exec (.takeNotice (whole 9)) { s0 with notices := [.protocol 2 1 0x40100102#32 .misaligned] })).link.mso =
      [0x89#8, 0x04#8, 0x21#8, 0x00#8, 0x10#8, 0x40#8, 0x10#8, 0x01#8, 0x02#8] := by decide +kernel

theorem test_read_status_record :
    (after (exec (.readStatus (whole 6)) sQ)).link.mso = [0x81#8, 0x01#8, 0x00#8, 0x00#8, 0x00#8, 0x1F#8] := by
  decide +kernel

theorem test_unknown_command_refused :
    (after (exec (.unknownCommand 0x23#8 (whole 2)) s0)).link.refused = true := by decide +kernel

/-- 09, Formats, note 1: a refusal between the fall of MCS_N and the end of the command byte shows in the record's byte 0
and not in the status byte. -/
theorem test_event_between_status_byte_and_snapshot :
    let opened := after (exec (.readStatus ⟨true, 0, false⟩) s0)
    let met := after (exec (.linkedRead 6 0 .write 0x40100040#32 2 true) opened)
    (after (exec (.readStatus ⟨false, 2, false⟩) met)).link.mso = [0x81#8, 0x09#8] := by decide +kernel

theorem test_short_frame_status_bits :
    (after (exec (.shortFrame 3) s0)).link.msoBits = [true, false, false] := by decide +kernel

theorem test_clear_all_keeps_windows :
    let u := after (exec (.clearAll (whole 1)) sQ)
    u.windows = s0.windows ∧ u.entry 7 = Entry.free ∧ u.released.map Released.mode = [.plain] := by decide +kernel

theorem test_control_write_reads_back :
    (after (exec (.writeControl 0xFFFFFFFF#32 (whole 6)) State.reset)).controlValue = 0x003F0031#32 := by decide +kernel

/-! Chapter 10: clock, channels and reset. -/

/-- CONTROL with sample code 3, MON and every kind enabled. -/
def control3 : Instr := .writeControl 0x003F0031#32 (whole 6)

/-- R154: an expiry and a CONTROL write of one moment give the next period the new length in either order; a period later
the running one keeps its length (R12). -/
theorem test_control_write_at_expiry :
    (after (exec control3 (after (exec .samplePeriodExpiry s0)))).sampleLength = 16384 ∧
      (after (exec .samplePeriodExpiry (after (exec control3 s0)))).sampleLength = 16384 ∧
      (after (exec control3 (after (step (after (exec .samplePeriodExpiry s0)))))).sampleLength = 1024 := by
  decide +kernel

theorem test_channels_present :
    (fourReplies s0).nearReplyPresented none = some (zeroReply 5 0 .exfail) ∧
      s0.nearReplyPresented (some ⟨4, 2, .error, 9#512⟩) = some (zeroReply 4 2 .buserr) ∧
      s0.farRequestPresented (some (plainReadRequest 7 2 0x50000000#32 2)) = some (farRead 7 2 0x50000000#32 2) ∧
      arbiterFull.farRequestPresented none = some (farRead 9 0 0x41000800#32 2) := by decide +kernel

theorem test_pins_in_reset :
    let u := after (exec .hardReset sQ)
    u.requestReady .forwardPlain true = false ∧ u.withdrawReady 1 0 = false ∧ u.farResponseReady false = true ∧
      u.nearReplyPresented none = none ∧ u.farRequestPresented none = none ∧ u.alert = false ∧ u.msoDriven = false := by
  decide +kernel

theorem test_stopped_clock_byte_acts_on_nothing :
    (after (exec (.unknownCommand 0x23#8 (whole 2)) { s0 with refclkRunning := false })).link.refused = false := by
  decide +kernel

theorem test_refclk_runs_again : (after (exec .refclkRunsAgain { s0 with refclkRunning := false })).live = true := by
  decide +kernel

/-- RESET_N rises while REFCLK is stopped (R156, R157): no frame begins, MSO is driven with zero while MCS_N is low, and the
first edge ends the reset. -/
def risenUnseen : State := after (exec .resetRelease (after (exec .refclkStops (after (exec .hardReset sQ)))))

theorem test_rise_of_reset_without_an_edge :
    let u := after (exec (.readStatus ⟨true, 0, false⟩) risenUnseen)
    risenUnseen.inReset = true ∧ u.link.phase = .idle ∧ u.msoDriven = true ∧ u.link.outByte = 0#8 ∧
      (after (exec (.readStatus ⟨true, 0, false⟩) (after (exec .hardReset sQ)))).msoDriven = false := by decide +kernel

theorem test_first_edge_sees_reset_high :
    (after (exec .refclkRunsAgain risenUnseen)).live = true ∧
      (after (exec .refclkRunsAgain (after (exec .hardReset risenUnseen)))).inReset = true := by decide +kernel

theorem test_reset_release : (after (exec .resetRelease (after (exec .hardReset sQ)))).live = true := by decide +kernel

theorem test_hard_reset_empties : (after (exec .hardReset sQ)).ctx 6 = Context.empty := by decide +kernel

/-! States and operands that meet the hypotheses of the obligations. -/

theorem witness_StepRunsFrontCommand : ({ s0 with pending := [.tenureUnit] }).pending = [.tenureUnit] := by decide +kernel

theorem witness_IdleStepCountsRefclk :
    s0.pending = [] ∧ s0.refclkRunning = true ∧ s0.inReset = false ∧
      ({ s0 with sampleTimer := 1022, unitCounter := 62 }).sampleLength = 1024 ∧
      ({ s0 with refclkRunning := false }).pending = [] := by
  decide +kernel

theorem witness_StoppedClockHoldsState :
    ({ s0 with refclkRunning := false }).refclkRunning = false ∧ ({ s0 with refclkRunning := false }).inReset = false ∧
      frameOf (.readStatus ⟨true, 2, false⟩) = some ⟨true, 2, false⟩ := by
  decide +kernel

theorem witness_AssertedResetHoldsState :
    (after (exec .hardReset s0)).inReset = true ∧ (after (exec .hardReset s0)).link.phase = .idle ∧
      risenUnseen.inReset = true ∧ risenUnseen.link.phase = .idle := by decide +kernel

theorem witness_RefusedRequestOnlyReports :
    portOpen s0 ∧ s0.refusal (linkedRequest 6 0 .read 0x40100040#32 6) = some .splitGranule ∧
      s0.refusal (linkedRequest 6 0 .write 0x40100040#32 2) = some .badAttribute ∧
      s0.refusal (conditionalRequest 6 0 .read 0x40100040#32 2 0#512 0#64) = some .badAttribute ∧
      s0.refusal (plainReadRequest 6 0 0x40100080#32 7) = some .badSize ∧
      s0.refusal (plainWriteRequest 6 0 0x40100001#32 1 0#512 0#64) = some .misaligned := by
  unfold portOpen; decide +kernel

theorem witness_UnmonitoredRequestsForwarded :
    farOpen s0 ∧ s0.refusal (plainReadRequest 7 2 0x40002000#32 2) = none ∧
      s0.refusal (plainWriteRequest 7 2 0x50000000#32 2 0#512 0#64) = none ∧ s0.classify 0x50000000#32 = none ∧
      s0.refusal (linkedRequest 7 2 .read 0x50000000#32 2) = none := by
  unfold farOpen portOpen; decide +kernel

theorem witness_LinkedReadArms :
    listOpen (filled s0 23) ∧ (filled s0 23).refusal (linkedRequest 2 1 .read 0x40002000#32 2) = none ∧
      (filled s0 23).classify 0x40002000#32 = some 0 ∧ inWatch (filled s0 23) ((filled s0 23).granuleOf 0 0x40002000#32) ∧
      (filled s0 23).covered ((filled s0 23).granuleOf 0 0x40002000#32) = false ∧ holdsNone (filled s0 23) 2 := by
  unfold listOpen farOpen portOpen inWatch holdsNone; decide +kernel

theorem witness_LinkedReadParksBehindWrite :
    let s := inFlight s0 (writing .cwrite g0 64)
    portOpen s ∧ s.refusal (linkedRequest 2 2 .read 0x40002000#32 2) = none ∧ s.classify 0x40002000#32 = some 0 ∧
      inWatch s (s.granuleOf 0 0x40002000#32) ∧ s.covered (s.granuleOf 0 0x40002000#32) = true ∧ holdsNone s 2 := by
  unfold portOpen inWatch holdsNone; decide +kernel

theorem witness_HolderRereads :
    let s := sH .queued
    let v := inFlight s (writing .write g3 64)
    s.refusal (linkedRequest 6 2 .read 0x41000800#32 2) = none ∧ s.classify 0x41000800#32 = some 3 ∧
      tracks s 7 (s.granuleOf 3 0x41000800#32) ∧ (s.entry 7).serving = true ∧ holdsOnly s 6 7 ∧ listOpen s ∧
      s.covered (s.granuleOf 3 0x41000800#32) = false ∧
      v.refusal (linkedRequest 6 2 .read 0x41000800#32 2) = none ∧ tracks v 7 (v.granuleOf 3 0x41000800#32) ∧
      holdsOnly v 6 7 ∧ portOpen v ∧ v.covered (v.granuleOf 3 0x41000800#32) = true := by
  unfold listOpen farOpen portOpen tracks holdsOnly; decide +kernel

theorem witness_LinkedReadJoinsQueue :
    portOpen sQ ∧ sQ.refusal (linkedRequest 8 2 .read 0x41000810#32 2) = none ∧ sQ.classify 0x41000810#32 = some 3 ∧
      tracks sQ 7 (sQ.granuleOf 3 0x41000810#32) ∧ (sQ.entry 7).serving = true ∧ (sQ.window 3).queuedAllowed = true ∧
      (sQ.entry 7).holder ≠ none ∧ holdsNone sQ 8 := by
  unfold portOpen tracks holdsNone; decide +kernel

/-- Nobody holds entry 7, and a write on its granule is in flight. -/
def sW : State := inFlight (sN .queued [11]) (writing .cwrite g3 64)

theorem witness_LinkedReadJoinsQueue_behind_write :
    portOpen sW ∧ sW.refusal (linkedRequest 8 2 .read 0x41000810#32 2) = none ∧ sW.classify 0x41000810#32 = some 3 ∧
      tracks sW 7 (sW.granuleOf 3 0x41000810#32) ∧ (sW.entry 7).serving = true ∧ (sW.window 3).queuedAllowed = true ∧
      sW.covered (sW.granuleOf 3 0x41000810#32) = true ∧ holdsNone sW 8 := by
  unfold portOpen tracks holdsNone; decide +kernel

theorem witness_EmptyQueueJoinIsGranted :
    let s := sN .queued []
    portOpen s ∧ s.refusal (linkedRequest 6 0 .read 0x41000800#32 2) = none ∧ s.classify 0x41000800#32 = some 3 ∧
      tracks s 7 (s.granuleOf 3 0x41000800#32) ∧ (s.entry 7).serving = true ∧ (s.window 3).queuedAllowed = true ∧
      (s.entry 7).holder = none ∧ (s.entry 7).queue = [] ∧ s.covered (s.granuleOf 3 0x41000800#32) = false ∧
      holdsNone s 6 := by
  unfold portOpen tracks holdsNone; decide +kernel

theorem witness_MoveReleasesHolder :
    Safety.HazardMatches sQ ∧ listOpen sQ ∧ sQ.refusal (linkedRequest 6 3 .read 0x40002000#32 2) = none ∧
      sQ.classify 0x40002000#32 = some 0 ∧ inWatch sQ (sQ.granuleOf 0 0x40002000#32) ∧
      sQ.covered (sQ.granuleOf 0 0x40002000#32) = false ∧ holdsOnly sQ 6 7 ∧ (sQ.entry 7).serving = true ∧
      (sQ.entry 7).granule ≠ sQ.granuleOf 0 0x40002000#32 := by
  unfold Safety.HazardMatches listOpen farOpen portOpen inWatch holdsOnly; decide +kernel

theorem witness_MoveReleasesHolder_behind_write :
    let s := inFlight sQ (writing .cwrite g0 64)
    Safety.HazardMatches s ∧ portOpen s ∧ s.refusal (linkedRequest 6 3 .read 0x40002000#32 2) = none ∧
      s.classify 0x40002000#32 = some 0 ∧ inWatch s (s.granuleOf 0 0x40002000#32) ∧
      s.covered (s.granuleOf 0 0x40002000#32) = true ∧ holdsOnly s 6 7 := by
  unfold Safety.HazardMatches portOpen inWatch holdsOnly; decide +kernel

/-- Master 6 holds entry 7, master 9 holds entry 5 on another granule. -/
def twoHolders : State :=
  { sQ with
    contention := sQ.contention.set 5 (entryOf .drain g0 (some 9) [])
    contexts := sQ.contexts.set 9 { reservation := none, parked := none, holdership := some 5 } }

theorem witness_MoveReleasesHolder_to_queue :
    Safety.HazardMatches twoHolders ∧ portOpen twoHolders ∧
      twoHolders.refusal (linkedRequest 6 3 .read 0x40002000#32 2) = none ∧
      twoHolders.classify 0x40002000#32 = some 0 ∧ holdsOnly twoHolders 6 7 ∧ (twoHolders.entry 7).serving = true ∧
      (twoHolders.entry 7).granule ≠ twoHolders.granuleOf 0 0x40002000#32 ∧
      tracks twoHolders 5 (twoHolders.granuleOf 0 0x40002000#32) ∧ (twoHolders.entry 5).serving = true ∧
      (twoHolders.entry 5).holder ≠ none ∧ (twoHolders.window 0).queuedAllowed = true := by
  unfold Safety.HazardMatches portOpen tracks holdsOnly; decide +kernel

/-- Master 6 holds entry 7; entry 5 on another granule has neither holder nor waiters. -/
def openBeside : State := { sQ with contention := sQ.contention.set 5 (entryOf .queued g0 none []) }

theorem witness_MoveReleasesHolder_to_open_queue :
    Safety.HazardMatches openBeside ∧ portOpen openBeside ∧
      openBeside.refusal (linkedRequest 6 3 .read 0x40002000#32 2) = none ∧
      openBeside.classify 0x40002000#32 = some 0 ∧ holdsOnly openBeside 6 7 ∧ (openBeside.entry 7).serving = true ∧
      (openBeside.entry 7).granule ≠ openBeside.granuleOf 0 0x40002000#32 ∧
      tracks openBeside 5 (openBeside.granuleOf 0 0x40002000#32) ∧ (openBeside.entry 5).serving = true ∧
      (openBeside.entry 5).holder = none ∧ (openBeside.window 0).queuedAllowed = true := by
  unfold Safety.HazardMatches portOpen tracks holdsOnly; decide +kernel

theorem test_move_to_open_queue_is_granted :
    let u := after (exec (.linkedRead 6 3 .read 0x40002000#32 2 true) openBeside)
    (u.entry 5).holder = some 6 ∧ (u.entry 7).holder = some 11 ∧
      u.released.map Released.holderEntry = [some 7, some 5] := by decide +kernel

theorem witness_ConditionalWriteOutsideFails :
    portOpen s0 ∧ s0.refusal (conditionalRequest 6 1 .write 0x30000000#32 2 0#512 0#64) = none ∧
      s0.classify 0x30000000#32 = none := by
  unfold portOpen; decide +kernel

/-- Master 3 with a reservation on g0, master 7 with another. -/
def reserved : State :=
  { s0 with contexts := (s0.contexts.set 3 { reservation := some g0, parked := none, holdership := none }).set 7
              { reservation := some g0, parked := none, holdership := none } }

theorem witness_ConditionalWritePassesOnReservation :
    Safety.EntriesTrack reserved ∧ listOpen reserved ∧
      reserved.refusal (conditionalRequest 3 1 .write 0x40002000#32 2 3#512 0xF#64) = none ∧
      reserved.classify 0x40002000#32 = some 0 := by
  unfold Safety.EntriesTrack listOpen farOpen portOpen; decide +kernel

theorem witness_PassingWriteForwarded :
    listOpen reserved ∧ reserved.refusal (conditionalRequest 3 1 .write 0x40002000#32 2 3#512 0xF#64) = none ∧
      reserved.classify 0x40002000#32 = some 0 ∧ (reserved.ctx 3).reservation = some (reserved.granuleOf 0 0x40002000#32) ∧
      inWatch reserved (reserved.granuleOf 0 0x40002000#32) ∧ holdsNone reserved 3 := by
  unfold listOpen farOpen portOpen inWatch holdsNone; decide +kernel

theorem witness_HolderWriteCompletes :
    Safety.HazardMatches sQ ∧ listOpen sQ ∧ sQ.refusal (conditionalRequest 6 1 .write 0x41000800#32 2 0#512 0#64) = none ∧
      sQ.classify 0x41000800#32 = some 3 ∧ (sQ.ctx 6).reservation = some (sQ.granuleOf 3 0x41000800#32) ∧
      tracks sQ 7 (sQ.granuleOf 3 0x41000800#32) ∧ (sQ.entry 7).serving = true ∧ holdsOnly sQ 6 7 := by
  unfold Safety.HazardMatches listOpen farOpen portOpen tracks holdsOnly; decide +kernel

theorem witness_HolderWriteCompletes_drain :
    let s := sH .drain
    Safety.HazardMatches s ∧ listOpen s ∧ s.refusal (conditionalRequest 6 1 .write 0x41000800#32 2 0#512 0#64) = none ∧
      (s.ctx 6).reservation = some (s.granuleOf 3 0x41000800#32) ∧ tracks s 7 (s.granuleOf 3 0x41000800#32) ∧
      holdsOnly s 6 7 ∧ (s.entry 7).state = .drain ∧ (s.entry 7).queue = [] ∧ (s.ctx 6).parked = none := by
  unfold Safety.HazardMatches listOpen farOpen portOpen tracks holdsOnly; decide +kernel

theorem witness_FailingWriteCounted :
    portOpen s0 ∧ s0.refusal (conditionalRequest 7 3 .write 0x40002000#32 2 7#512 0xF#64) = none ∧
      s0.classify 0x40002000#32 = some 0 ∧ failsOn s0 7 (s0.granuleOf 0 0x40002000#32) ∧ holdsNone s0 7 ∧
      (s0.window 0).queuedAllowed = true ∧ (s0.entry 0).state = .free ∧
      (∀ i, (s0.entry i).state ≠ .free → (s0.entry i).granule ≠ s0.granuleOf 0 0x40002000#32) ∧
      s0.classify 0x40100010#32 = some 1 ∧ (s0.window 1).queuedAllowed = false ∧
      tracks sQ 7 (sQ.granuleOf 3 0x41000808#32) ∧ holdsNone sQ 2 := by
  unfold portOpen holdsNone failsOn tracks; decide +kernel

/-- The holder without its reservation, master 11 waiting. -/
def sF : State := { sQ with contexts := sQ.contexts.set 6 (holding none) }

theorem witness_HolderFailureGrantsNext :
    Safety.HazardMatches sF ∧ portOpen sF ∧ sF.refusal (conditionalRequest 6 3 .write 0x41000800#32 2 0#512 0#64) = none ∧
      sF.classify 0x41000800#32 = some 3 ∧ failsOn sF 6 (sF.granuleOf 3 0x41000800#32) ∧ (sF.entry 7).serving = true ∧
      holdsOnly sF 6 7 ∧ (sF.entry 7).queue = [11] ∧ sF.covered (sF.granuleOf 3 0x41000800#32) = false := by
  unfold Safety.HazardMatches portOpen failsOn tracks holdsOnly; decide +kernel

/-- The holder whose hazard re-read is parked writes: it fails, and its re-read moves to the queue. -/
theorem witness_HolderFailureGrantsNext_reread :
    Safety.HazardMatches sR ∧ portOpen sR ∧ sR.refusal (conditionalRequest 6 5 .write 0x41000800#32 2 0#512 0#64) = none ∧
      sR.classify 0x41000800#32 = some 3 ∧ failsOn sR 6 (sR.granuleOf 3 0x41000800#32) ∧ (sR.entry 7).serving = true ∧ holdsOnly sR 6 7 := by
  unfold Safety.HazardMatches portOpen failsOn tracks holdsOnly; decide +kernel

/-- The full table with no candidate for replacement. -/
def noCandidate : State := fullTable.mapEntries fun _ x => { x with warm := true }

theorem witness_FailingWriteCounted_replaces :
    portOpen fullTable ∧ failsOn fullTable 7 g0 ∧ holdsNone fullTable 7 ∧ coldestWatch fullTable 9 ∧
      fullTable.refusal (conditionalRequest 7 3 .write 0x40002000#32 2 0#512 0#64) = none ∧
      fullTable.classify 0x40002000#32 = some 0 ∧ fullTable.granuleOf 0 0x40002000#32 = g0 := by
  unfold portOpen failsOn holdsNone coldestWatch tracks; decide +kernel

theorem witness_FailingWriteCounted_untracked :
    portOpen noCandidate ∧ failsOn noCandidate 7 g0 ∧ holdsNone noCandidate 7 ∧
      noCandidate.refusal (conditionalRequest 7 3 .write 0x40002000#32 2 0#512 0#64) = none ∧
      noCandidate.classify 0x40002000#32 = some 0 ∧ noCandidate.granuleOf 0 0x40002000#32 = g0 := by
  unfold portOpen failsOn holdsNone tracks; decide +kernel

/-- Master 6 holds entry 7 in DRAIN, with nobody waiting, and the full table has no candidate for replacement. -/
def fullDrain : State :=
  { noCandidate with
    contention := noCandidate.contention.set 7 (entryOf .drain g3 (some 6) [])
    contexts := noCandidate.contexts.set 6 (holding (some g3)) }

/-- The holder writes another granule (R48, second case). -/
theorem witness_HolderFailureGrantsNext_elsewhere :
    Safety.HazardMatches fullDrain ∧ portOpen fullDrain ∧
      fullDrain.refusal (conditionalRequest 6 3 .write 0x40002000#32 2 0#512 0#64) = none ∧
      fullDrain.classify 0x40002000#32 = some 0 ∧ failsOn fullDrain 6 (fullDrain.granuleOf 0 0x40002000#32) ∧
      (fullDrain.entry 7).serving = true ∧ holdsOnly fullDrain 6 7 ∧
      (fullDrain.entry 7).granule ≠ fullDrain.granuleOf 0 0x40002000#32 := by
  unfold Safety.HazardMatches portOpen failsOn tracks holdsOnly; decide +kernel

/-- R134: UNTRACKED, then the GRANULE_COOL of the DRAIN exit of another granule. -/
theorem test_untracked_before_cool :
    let u := after (exec (.conditionalWrite 6 3 .write 0x40002000#32 2 0#512 0#64 true) fullDrain)
    u.notices = [.untracked g0, .granuleCool 7 g3] ∧ (u.entry 7).state = .watch := by decide +kernel

theorem witness_FullTableReplacesColdest :
    (fullTable.window g0.window).queuedAllowed = true ∧ (∀ e, (fullTable.entry e).state ≠ .free) ∧
      (∀ e, (fullTable.entry e).granule ≠ g0) ∧ (fullTable.entry 9).state = .watch ∧ (fullTable.entry 9).warm = false ∧
      (∀ i, (fullTable.entry i).state = .watch → (fullTable.entry i).warm = false →
        (fullTable.entry 9).fast < (fullTable.entry i).fast ∨ ((fullTable.entry 9).fast = (fullTable.entry i).fast ∧ 9 ≤ i)) ∧
      (∀ e, (noCandidate.entry e).state ≠ .free) ∧ (∀ e, (noCandidate.entry e).granule ≠ g0) ∧
      ∀ e, (noCandidate.entry e).state = .watch → (noCandidate.entry e).warm = true := by
  decide +kernel

theorem witness_PlainWriteClearsReservations :
    listOpen reserved ∧ reserved.refusal (plainWriteRequest 9 0 0x40002010#32 3 0#512 0#64) = none ∧
      reserved.classify 0x40002010#32 = some 0 := by
  unfold listOpen farOpen portOpen; decide +kernel

theorem witness_RequestLiesInOneWindow :
    Safety.TableLegal s0 ∧ 2 ^ (6 : SizeCode).val ∣ (0x400FFFC0#32).toNat ∧ s0.classify 0x400FFFC0#32 = some 0 ∧
      2 ^ (6 : SizeCode).val ≤ s0.granuleBytes 0 ∧ s0.classify 0x3FFFFFC0#32 = none := by
  unfold Safety.TableLegal Safety.WindowLegal; decide +kernel

theorem witness_RangeIncludesSharedByte :
    ({ first := 0x40100040#32, last := 0x40100070#32, size := 16 } : GranuleRange).includes 0x4010007F#32 1 = true ∧
      ({ first := 0x40100040#32, last := 0x40100070#32, size := 16 } : GranuleRange).includes 0x40100080#32 1 = false := by
  decide +kernel

theorem witness_WithdrawHazardRead :
    overlapping.live = true ∧ (overlapping.ctx 4).parked = some (parkedAs 2 0x40100058#32 2 g1 .hazard) ∧
      overlapping.replies.length < 4 ∧ 4 ≤ (fourReplies overlapping).replies.length ∧ (overlapping.ctx 9).parked = none := by
  decide +kernel

theorem witness_WithdrawQueuedRead :
    sQ.live = true ∧ sQ.replies.length < 4 ∧ (sQ.ctx 11).parked = some (parkedAs 0 0x41000800#32 2 g3 (.queue 7)) ∧
      (sQ.entry 7).state ≠ .drain ∧ ((sN .drain [11]).ctx 11).parked = some (parkedAs 0 0x41000800#32 2 g3 (.queue 7)) ∧
      ((sN .drain [11]).entry 7).state = .drain ∧ ((sN .drain [11]).entry 7).holder = none ∧
      (((sN .drain [11]).entry 7).queue.filter fun i => decide (i ≠ 11)) = [] := by
  decide +kernel

theorem witness_FarResponseToLinkedRead :
    let f := writing (.lread true none) g0 64
    let s := inFlight reserved f
    s.live = true ∧ s.replies = [] ∧ s.flight = [] ++ f :: [] ∧ firstOf 4 1 [] f ∧ f.kind = .lread true none ∧
      (writing (.lread false none) g0 64).kind = .lread false none := by
  unfold firstOf; decide +kernel

theorem witness_FarErrorReleasesHolder :
    let f : Flight := { writing (.lread true (some 7)) g3 64 with master := 6 }
    let s := inFlight sQ f
    Safety.HazardMatches s ∧ s.live = true ∧ s.replies = [] ∧ s.flight = [] ++ f :: [] ∧ firstOf 6 1 [] f ∧
      f.kind = .lread true (some 7) ∧ (s.entry 7).holder = some 6 ∧ (s.entry 7).serving = true := by
  unfold Safety.HazardMatches firstOf; decide +kernel

/-- The holder's older read, its mark clear, while a re-read has armed the granule again; and one of an ended holdership. -/
theorem witness_FarErrorReleasesHolder_unmarked :
    let f : Flight := { writing (.lread false (some 7)) g3 64 with master := 6 }
    let s := inFlight sQ f
    let v := inFlight (sN .queued []) f
    Safety.HazardMatches s ∧ firstOf 6 1 [] f ∧ f.kind = .lread false (some 7) ∧ (s.entry 7).holder = some 6 ∧
      (s.ctx 6).reservation = some (s.entry 7).granule ∧ (v.entry 7).holder ≠ some 6 := by
  unfold Safety.HazardMatches firstOf; decide +kernel

theorem witness_WriteRemovalReleasesHazardReads :
    ∃ f rest, overlapping.live = true ∧ overlapping.replies = [] ∧ overlapping.flight = [] ++ f :: rest ∧
      firstOf 0 0 [] f ∧ f.isWrite = true ∧ ∀ e, ¬ mayGrant overlapping f.range e := by
  refine ⟨_, _, by decide +kernel, by decide +kernel, rfl, ?_, by decide +kernel, ?_⟩
  · unfold firstOf; decide +kernel
  · unfold mayGrant; decide +kernel

theorem witness_WriteRemovalGrants :
    Safety.QueuesMatch sW ∧ Safety.HazardMatches sW ∧ sW.live = true ∧ sW.replies = [] ∧
      sW.flight = [] ++ writing .cwrite g3 64 :: [] ∧ firstOf 4 1 [] (writing .cwrite g3 64) ∧
      (writing .cwrite g3 64).isWrite = true ∧ mayGrant sW (writing .cwrite g3 64).range 7 := by
  unfold Safety.QueuesMatch Safety.HazardMatches firstOf mayGrant; decide +kernel

/-- A write of two granules of window 1, in flight; entries 3 and 4 on them, each with one waiter. -/
def twoGrants : State :=
  let g : Granule := { base := 0x40100040#32, window := 1 }
  { inFlight s0 { writing .write g 16 with range := { first := 0x40100040#32, last := 0x40100050#32, size := 16 } } with
    contention := (s0.contention.set 3 (entryOf .queued g none [2])).set 4 (entryOf .drain g1 none [11])
    contexts := (s0.contexts.set 2
        { reservation := none, parked := some (parkedAs 1 0x40100040#32 2 g (.queue 3)), holdership := none }).set 11
        { reservation := none, parked := some (parkedAs 0 0x40100050#32 2 g1 (.queue 4)), holdership := none } }

theorem witness_WriteRemovalGrants_several :
    Safety.QueuesMatch twoGrants ∧ Safety.HazardMatches twoGrants ∧ twoGrants.live = true ∧ twoGrants.replies = [] ∧
      ∀ f ∈ twoGrants.flight, firstOf 4 1 [] f ∧ f.isWrite = true ∧ mayGrant twoGrants f.range 3 ∧
        mayGrant twoGrants f.range 4 := by
  unfold Safety.QueuesMatch Safety.HazardMatches firstOf mayGrant; decide +kernel

theorem test_two_grants_at_one_removal :
    let u := after (exec (.farResponse 4 1 .ok 0#512 true) twoGrants)
    (u.entry 3).holder = some 2 ∧ (u.entry 4).holder = some 11 ∧ u.released.map Released.holderEntry = [some 3, some 4] := by
  decide +kernel

theorem witness_UntrackedFarResponse :
    s0.live = true ∧ s0.replies = [] ∧ (fourReplies s0).replies ≠ [] ∧ s0.nomonMark 15 7 = false ∧
      (s0.setNomon 15 7 true).nomonMark 15 7 = true := by
  decide +kernel

theorem witness_ReplyQueueSendsOldest :
    (fourReplies s0).live = true ∧ (fourReplies s0).replies = ⟨5, 0, .exfail⟩ :: (fourReplies s0).replies.tail ∧
      s0.live = true ∧ s0.replies = [] := by
  decide +kernel

/-- One released read waiting, with n entries in the flight list. -/
def oneReleased (n : Nat) (mode : ArmMode) : State :=
  { filled s0 n with released := [⟨3, 0, 0x40002000#32, 2, g0, mode⟩] }

/-- Three released reads wait; the last of them, of the lowest master, is the arbiter's choice. -/
def threeReleased (mode : ArmMode) : State :=
  { s0 with released := [⟨9, 0, 0x41000800#32, 2, g3, .arm none⟩, ⟨12, 0, 0x41000800#32, 2, g3, .plain⟩,
                         ⟨3, 0, 0x40002000#32, 2, g0, mode⟩] }

theorem witness_ReleasedReadForwardedByMode :
    (threeReleased .plain).live = true ∧
      (∀ mode ∈ [ArmMode.arm none, .disarmed, .plain],
        (threeReleased mode).released = [⟨9, 0, 0x41000800#32, 2, g3, .arm none⟩, ⟨12, 0, 0x41000800#32, 2, g3, .plain⟩] ++
          ⟨3, 0, 0x40002000#32, 2, g0, mode⟩ :: [] ∧
        chosen (threeReleased mode)
          [⟨9, 0, 0x41000800#32, 2, g3, .arm none⟩, ⟨12, 0, 0x41000800#32, 2, g3, .plain⟩]
          ⟨3, 0, 0x40002000#32, 2, g0, mode⟩ []) ∧
      chosen (oneReleased 23 (.arm none)) [] ⟨3, 0, 0x40002000#32, 2, g0, .arm none⟩ [] ∧
      chosen (oneReleased 24 .plain) [] ⟨3, 0, 0x40002000#32, 2, g0, .plain⟩ [] := by
  unfold chosen mayGo; decide +kernel

theorem witness_ArbiterTakesLowestMaster :
    arbiterFull.live = true ∧
      arbiterFull.released = [⟨3, 0, 0x40002000#32, 2, g0, .arm none⟩, ⟨12, 0, 0x41000800#32, 2, g3, .plain⟩] ++
        ⟨9, 0, 0x41000800#32, 2, g3, .plain⟩ :: [] ∧
      chosen arbiterFull [⟨3, 0, 0x40002000#32, 2, g0, .arm none⟩, ⟨12, 0, 0x41000800#32, 2, g3, .plain⟩]
        ⟨9, 0, 0x41000800#32, 2, g3, .plain⟩ [] ∧
      (oneReleased 24 .disarmed).released ≠ [] ∧
      (∀ r ∈ (oneReleased 24 .disarmed).released, ¬ mayGo (oneReleased 24 .disarmed) r) := by
  unfold chosen mayGo; decide +kernel

theorem witness_Expiry : turningHot.live = true ∧ (turningHot.entry 2).state = .watch ∧ (sampledNow turningHot 2).hot = true ∧
    ∀ e, ¬ turnsHot s0 e := by
  unfold turnsHot; decide +kernel

/-- The granule of the entry that turns hot. -/
def gT : Granule := { base := 0x40004000#32, window := 0 }

/-- The same with a write in flight on the granule and master 4's hazard read behind it. -/
def turningBusy : State :=
  { turningHot with
    flight := [writing .write gT 64]
    hazard := [4]
    contexts := turningHot.contexts.set 4
      { reservation := none, parked := some (parkedAs 2 0x40004000#32 2 gT .hazard), holdership := none } }

theorem witness_EnteringQueuedTakesOverGranule_coherent : Safety.Coherent turningBusy where
  table := by unfold Safety.TableLegal Safety.WindowLegal; decide +kernel
  law1 := by unfold Safety.ReservationsActive; decide +kernel
  reads := by unfold Safety.ReadsActive; decide +kernel
  queues := by unfold Safety.QueuesMatch; decide +kernel
  hazards := by unfold Safety.HazardMatches; decide +kernel
  holders := by unfold Safety.HoldersMatch; decide +kernel
  waiters := by unfold Safety.ParkedHoldsOwn; decide +kernel
  unarmed := by unfold Safety.ParkedUnarmed; decide +kernel
  law4 := by unfold Safety.OnlyHolderReserves; decide +kernel
  arming := by unfold Safety.OnlyHolderWillArm; decide +kernel
  rereads := by unfold Safety.HazardOpenOrHeld; decide +kernel
  named := by unfold Safety.HolderEntriesCurrent; decide +kernel
  marks := by unfold Safety.MarksMatch; decide +kernel
  oneMark := by unfold Safety.OneMarkEach; decide +kernel
  law5 := by unfold Safety.EntriesTrack; decide +kernel
  law6 := by unfold Safety.ReleasedUncovered; decide +kernel
  law10 := by unfold Safety.StatesMatch; decide +kernel
  tenures := by unfold Safety.TenureMatches; decide +kernel
  drains := by unfold Safety.DrainServes; decide +kernel

theorem witness_EnteringQueuedTakesOverGranule :
    Safety.WaitersCovered turningBusy ∧ turningBusy.live = true ∧ turnsHot turningBusy 2 := by
  unfold Safety.WaitersCovered turnsHot; decide +kernel

/-- R31, first point: the reservation of master 5 on the granule is cleared, and its read of another granule disarmed. -/
theorem test_entering_queued_disarms_elsewhere :
    let s := { turningBusy with
      contexts := turningBusy.contexts.set 5 { reservation := some gT, parked := none, holdership := none }
      released := [⟨5, 0, 0x40002000#32, 2, g0, .arm none⟩] }
    (after (exec .samplePeriodExpiry s)).released.map Released.mode = [.disarmed] := by decide +kernel

theorem test_entering_queued_moves_hazard_reads :
    let u := after (exec .samplePeriodExpiry turningBusy)
    (u.entry 2).queue = [4] ∧ u.hazard = [] ∧ (u.entry 2).holder = none := by decide +kernel

theorem witness_ExpiryMovesFilters_retires :
    retiresNow { s0 with contention := s0.contention.set 2 (episode .watch 1 1 0 false) } 2 := by
  unfold retiresNow; decide +kernel

theorem witness_TenureUnitCountsDown :
    (∀ e, ¬ dueNow s0 e) ∧ (∀ i, dueNow sQ i ↔ i = 7) ∧ dueNow twoHolders 5 ∧ dueNow twoHolders 7 ∧
      ∀ e, ¬ dueNow (sQ.updEntry 7 fun x => { x with tenure := 2 }) e := by
  unfold dueNow; decide +kernel

theorem witness_TenureExpiryReleasesHolder :
    sQ.live = true ∧ Safety.HazardMatches sQ ∧ dueNow sQ 7 ∧ (sQ.entry 7).serving = true ∧ (sQ.entry 7).holder = some 6 ∧
      Safety.HazardMatches sR ∧ dueNow sR 7 ∧ (sR.ctx 6).parked ≠ none ∧ (sR.ctx 6).reservation = none ∧
      dueNow (sH .drain) 7 ∧ ((sH .drain).entry 7).state = .drain ∧
      ¬ dueNow (sQ.updEntry 7 fun x => { x with tenure := 2 }) 7 := by
  unfold Safety.HazardMatches dueNow; decide +kernel

theorem witness_PinEventsTaken :
    (after (exec .hardReset s0)).refclkRunning = true ∧ (after (exec .hardReset s0)).inReset = true ∧ s0.inReset = false ∧
      risenUnseen.refclkRunning = false ∧ risenUnseen.inReset = true ∧ risenUnseen.resetLow = false := by
  decide +kernel

theorem witness_linkOpen : linkOpen s0 := by unfold linkOpen; decide +kernel

theorem witness_WindowFieldsWritten :
    (s0.window 2).enable = false ∧ (s0.window 0).enable = true ∧ 2 ^ 12 ∣ (0xFFFFF000#32).toNat ∧
      ((0x00000012#32).extractLsb' 0 5).toNat = 18 ∧ ((0x00000013#32).extractLsb' 0 5).toNat = 19 ∧
      (0x00010000#32).extractLsb' 16 8 ≠ 0#8 ∧ (0xFF00FFFF#32).extractLsb' 16 8 = 0#8 ∧ ¬ 2 ^ 12 ∣ (0x40000800#32).toNat ∧
      decodeRegister 0x02#8 = none := by
  decide +kernel

theorem witness_ControlWritten :
    s0.mon = true ∧ (0x003F0010#32).getLsbD 0 = false ∧ (0x003F0011#32).getLsbD 0 = true ∧ State.reset.mon = false ∧
      (after (exec .samplePeriodExpiry s0)).atExpiry = true ∧ s0.atExpiry = false := by
  decide +kernel

theorem witness_EnableSetChecked :
    ((attempt 0x40200000#32 4#5 3#6).window 2).enable = false ∧
      ((attempt 0x40200000#32 4#5 3#6).window 2).bytes ∣ ((attempt 0x40200000#32 4#5 3#6).window 2).base.toNat ∧
      (attempt 0x40200000#32 4#5 3#6).overlapsOther 2 = false ∧ (s0.window 0).enable = true := by
  decide +kernel

theorem witness_EnableClearDissolves : sQ.active 3 = true ∧ sQ.active 2 = false := by decide +kernel

theorem witness_RecordsReturned : 32 ≤ (32#8).toNat ∧ 16 ≤ (16#8).toNat := by decide

theorem witness_TakeNoticeRemovesHead :
    ({ s0 with notices := [.untracked g0] }).notices = .untracked g0 :: [] ∧ s0.notices = [] ∧ 8 < 9 := by decide +kernel

/-- A READ STATUS frame left open before its last byte, with a discard after its snapshot. -/
def openStatus : State :=
  let u := after (exec (.readStatus ⟨true, 5, false⟩) s0)
  { u with overflow := true, discardMark := true }

theorem witness_ReadStatusReportsAndClears :
    linkOpen openStatus ∧ openStatus.link.phase = .ret ∧ openStatus.link.command = some .readStatus ∧
      openStatus.link.shiftOut = [0x20#8] := by
  unfold linkOpen; decide +kernel

theorem witness_ReleaseHolderGrantsNext :
    linkOpen sQ ∧ Safety.HazardMatches sQ ∧ (sQ.entry 7).serving = true ∧ (sQ.entry 7).holder = some 6 ∧
      (∀ e : EntryIx, e.val = (32#8).toNat → (sQ.entry e).serving = false ∨ (sQ.entry e).holder = none) ∧
      (∀ e : EntryIx, e.val = (31#8).toNat → (sQ.entry e).serving = false ∨ (sQ.entry e).holder = none) := by
  unfold linkOpen Safety.HazardMatches; decide +kernel

theorem witness_UnknownAndCutCommands : decodeCommand 0x00#8 = none ∧ decodeCommand 0xFF#8 = none := by decide

theorem witness_ShortFramesChangeNothing :
    ∃ v n, n < 6 ∧ (Instr.writeControl 0#32 (whole 5)) = .writeControl v (whole n) := ⟨0#32, 5, by decide, rfl⟩

theorem witness_NoticeQueueRules :
    ({ s0 with mask := 0x2F#6 }).mask.getLsbD (Notice.untracked g0).kindBit = false ∧
      s0.mask.getLsbD (Notice.untracked g0).kindBit = true ∧
      ({ s0 with notices := List.replicate 15 (.granuleHot 2 g0) }).notices.length < 16 ∧
      16 ≤ ({ s0 with notices := List.replicate 16 (.granuleHot 2 g0) }).notices.length := by
  decide +kernel

/-- A coherent state with a holder and a waiter. -/
theorem witness_Coherent : Safety.Coherent sQ where
  table := by unfold Safety.TableLegal Safety.WindowLegal; decide +kernel
  law1 := by unfold Safety.ReservationsActive; decide +kernel
  reads := by unfold Safety.ReadsActive; decide +kernel
  queues := by unfold Safety.QueuesMatch; decide +kernel
  hazards := by unfold Safety.HazardMatches; decide +kernel
  holders := by unfold Safety.HoldersMatch; decide +kernel
  waiters := by unfold Safety.ParkedHoldsOwn; decide +kernel
  unarmed := by unfold Safety.ParkedUnarmed; decide +kernel
  law4 := by unfold Safety.OnlyHolderReserves; decide +kernel
  arming := by unfold Safety.OnlyHolderWillArm; decide +kernel
  rereads := by unfold Safety.HazardOpenOrHeld; decide +kernel
  named := by unfold Safety.HolderEntriesCurrent; decide +kernel
  marks := by unfold Safety.MarksMatch; decide +kernel
  oneMark := by unfold Safety.OneMarkEach; decide +kernel
  law5 := by unfold Safety.EntriesTrack; decide +kernel
  law6 := by unfold Safety.ReleasedUncovered; decide +kernel
  law10 := by unfold Safety.StatesMatch; decide +kernel
  tenures := by unfold Safety.TenureMatches; decide +kernel
  drains := by unfold Safety.DrainServes; decide +kernel

theorem witness_KeptByStep : (∃ u, step sQ = .next u) ∧ Safety.TagsDistinct sQ ∧ Safety.WaitersCovered sQ ∧
    Safety.ListsBounded sQ ∧ Safety.FiltersBounded sQ ∧ Safety.TimebaseBounded sQ ∧ Safety.RepliesOwn (fourReplies s0) ∧
    Safety.UntrackedOnce sQ := by
  refine ⟨⟨_, rfl⟩, ?_, ?_, ?_, ?_, ?_, ?_, ?_⟩
  · unfold Safety.TagsDistinct; decide +kernel
  · unfold Safety.WaitersCovered; decide +kernel
  · unfold Safety.ListsBounded; decide +kernel
  · unfold Safety.FiltersBounded; decide +kernel
  · unfold Safety.TimebaseBounded; decide +kernel
  · unfold Safety.RepliesOwn; decide +kernel
  · unfold Safety.UntrackedOnce; decide +kernel

theorem witness_LinkAndResetKeptByStep :
    Safety.FrameMatches openStatus ∧ Safety.HeadStays openStatus ∧ Safety.ResetHolds (after (exec .hardReset sQ)) ∧
      Safety.ResetFollowsPin risenUnseen := by
  refine ⟨?_, ?_, ?_, ?_⟩
  · unfold Safety.FrameMatches; decide +kernel
  · unfold Safety.HeadStays; decide +kernel
  · unfold Safety.ResetHolds; decide +kernel
  · unfold Safety.ResetFollowsPin; decide +kernel

end Sys2Proof.Tests
end

section
/-! SUPPORT. Rules for a request offered at the near port: when it is accepted, and under which entry its granule stands. -/

namespace Sys2Proof.Machine

open Sys2Proof.Claim

/-- Only a request that is forwarded joins the flight list (R56, R120). -/
theorem Disposition.forwards_of_tracked {d : Disposition} (h : d.tracked = true) : d.forwards = true := by
  cases d <;> simp_all [Disposition.tracked, Disposition.forwards]

/-- A live part runs on REFCLK and is not in reset. -/
theorem State.live_iff (s : State) : s.live = true ↔ s.refclkRunning = true ∧ s.inReset = false := by
  simp [State.live]

/-- A request whose needs are met is accepted, with the disposition it has (R120). -/
theorem State.offer_of_ready {s : State} {r : Request} {d : Disposition} {far : Bool} (hd : s.dispose r = d)
    (hrun : s.refclkRunning = true) (hready : s.requestReady d far = true) :
    s.offer r far = (s.quiet.carryOut r d).took := by
  subst hd
  exact if_pos (Bool.and_eq_true_iff.mpr ⟨hrun, hready⟩)

/-- A request that is not forwarded is accepted at an open near port, at any level of the far request channel (R120). -/
theorem State.offer_of_portOpen {s : State} {r : Request} {d : Disposition} (far : Bool) (hopen : portOpen s)
    (hd : s.dispose r = d) (hstays : d.forwards = false) : s.offer r far = (s.quiet.carryOut r d).took := by
  obtain ⟨hlive, hroom⟩ := hopen
  obtain ⟨hrun, hreset⟩ := s.live_iff.mp hlive
  have huntracked : d.tracked ≠ true := fun h => by simpa [hstays] using Disposition.forwards_of_tracked h
  exact State.offer_of_ready hd hrun
    ((s.requestReady_iff d far).mpr ⟨hreset, hroom, by simp [hstays], fun h => absurd h huntracked⟩)

/-- Any request is accepted where nothing holds back one that joins the flight list (R120). -/
theorem State.offer_of_listOpen {s : State} {r : Request} {d : Disposition} (hopen : listOpen s)
    (hd : s.dispose r = d) : s.offer r true = (s.quiet.carryOut r d).took := by
  obtain ⟨⟨⟨hlive, hroom⟩, hnone⟩, hflight⟩ := hopen
  obtain ⟨hrun, hreset⟩ := s.live_iff.mp hlive
  exact State.offer_of_ready hd hrun
    ((s.requestReady_iff d true).mpr ⟨hreset, hroom, fun _ => ⟨rfl, hnone⟩, fun _ => hflight⟩)

/-- An entry in QUEUED or DRAIN is not FREE (R71). -/
theorem Entry.used_of_serving {x : Entry} (h : x.serving = true) : x.state ≠ .free := by
  intro hfree
  simp [Entry.serving, hfree] at h

/-- The only entry that tracks a granule is the one found for it. -/
theorem State.entryFor_of_tracks {s : State} {e : EntryIx} {g : Granule} (h : tracks s e g) : s.entryFor g = some e := by
  obtain ⟨hused, hgran, honly⟩ := h
  cases hfound : s.entryFor g with
  | none => exact absurd hgran (State.entryFor_none hfound e hused)
  | some x =>
    obtain ⟨xused, xgran⟩ := State.entryFor_some hfound
    by_contra hne
    exact honly x (fun hx => hne (congrArg some hx)) xused xgran

/-- Law 5 makes every entry that is not FREE the only one that tracks its granule. -/
theorem tracks_of_entriesTrack {s : State} (hlaw5 : Safety.EntriesTrack s) {e : EntryIx}
    (hused : (s.entry e).state ≠ .free) : tracks s e (s.entry e).granule := by
  obtain ⟨hunique, -⟩ := hlaw5
  exact ⟨hused, rfl, fun i hi iused igran => hi (hunique i e iused hused igran)⟩

/-- Under Law 5 the entry that serves a granule is any entry in QUEUED or DRAIN on it. -/
theorem State.servingEntry_eq_some_iff {s : State} (hlaw5 : Safety.EntriesTrack s) {g : Granule} {e : EntryIx} :
    s.servingEntry g = some e ↔ (s.entry e).serving = true ∧ (s.entry e).granule = g := by
  constructor
  · intro h
    obtain ⟨hfound, hserv⟩ := Option.filter_eq_some_iff.mp h
    exact ⟨hserv, (State.entryFor_some hfound).2⟩
  · rintro ⟨hserv, rfl⟩
    have hfound := State.entryFor_of_tracks (tracks_of_entriesTrack hlaw5 (Entry.used_of_serving hserv))
    exact Option.filter_eq_some_iff.mpr ⟨hfound, hserv⟩

end Sys2Proof.Machine
end

section
/-! PROOFS. Conditional writes (03_conditional_writes.md): outside every window, and the evaluation inside one. -/

namespace Sys2Proof.Machine

open Sys2Proof.Claim

/-- A CONDITIONAL_WRITE is its request offered at the near port. -/
theorem exec_conditionalWrite (m : Master) (t : Tag) (k : Kind) (a : Addr) (z : SizeCode) (d : Data) (b : Strobes)
    (far : Bool) (s : State) :
    exec (.conditionalWrite m t k a z d b far) s = .next (s.offer (conditionalRequest m t k a z d b) far) := rfl

section Dispositions

variable {s : State} {m : Master} {t : Tag} {k : Kind} {a : Addr} {z : SizeCode} {d : Data} {b : Strobes}

/-- A conditional write that has passed the checks is not judged outside every window (R41). -/
theorem State.dispose_conditional_outside (hok : s.refusal (conditionalRequest m t k a z d b) = none)
    (hout : s.classify a = none) : s.dispose (conditionalRequest m t k a z d b) = .exfailOutside := by
  have hclass : s.classify (conditionalRequest m t k a z d b).address = none := hout
  unfold State.dispose
  rw [hok, hclass]
  rfl

/-- A conditional write that has passed the checks is judged in a window by its two conditions (R43). -/
theorem State.dispose_conditional_inside {w : WindowIx} (hok : s.refusal (conditionalRequest m t k a z d b) = none)
    (hin : s.classify a = some w) :
    s.dispose (conditionalRequest m t k a z d b) =
      if s.passes m (s.granuleOf w a) then .writePasses (s.granuleOf w a) else .writeFails (s.granuleOf w a) := by
  have hclass : s.classify (conditionalRequest m t k a z d b).address = some w := hin
  unfold State.dispose
  rw [hok, hclass]
  rfl

end Dispositions

/-- Under Law 5 the evaluation passes exactly for the master that has the reservation and is the holder of every entry in
QUEUED or DRAIN on the granule (R43). -/
theorem State.passes_iff {s : State} (hlaw5 : Safety.EntriesTrack s) (m : Master) (g : Granule) :
    s.passes m g = true ↔
      (s.ctx m).reservation = some g ∧
        ∀ e, (s.entry e).serving = true → (s.entry e).granule = g → (s.entry e).holder = some m := by
  simp only [State.passes, Bool.and_eq_true, decide_eq_true_eq, Option.all_eq_true,
    State.servingEntry_eq_some_iff hlaw5, and_imp]

/-- A failing conditional write appends its EXFAIL to the reply queue, and no other reply (R47). -/
@[simp] theorem State.failWrite_replies (s : State) (r : Request) (g : Granule) :
    (s.failWrite r g).replies = s.replies ++ [{ master := r.master, tag := r.tag, status := .exfail }] := by
  simp [State.failWrite]

/-- Settles O15: the write is accepted with the disposition of R41, which only queues the reply. -/
theorem conditionalWriteOutsideFails : Obligations.ConditionalWriteOutsideFails := by
  intro m t a z d b far s hopen hok hout
  have hd := State.dispose_conditional_outside hok hout
  rw [exec_conditionalWrite, State.offer_of_portOpen far hopen hd rfl]
  rfl

/-- Settles O16: the write is accepted at once, and of the two outcomes only the passing one is forwarded and only the
failing one queues a reply. -/
theorem conditionalWritePassesOnReservation : Obligations.ConditionalWritePassesOnReservation := by
  intro m t a z d b w s hlaw5 hopen hok hin
  refine ⟨_, rfl, ?_⟩
  have hd := State.dispose_conditional_inside hok hin
  rw [← State.passes_iff hlaw5, State.offer_of_listOpen hopen hd]
  cases hpass : s.passes m (s.granuleOf w a) with
  | true =>
    constructor <;> simp [State.carryOut, conditionalRequest, Request.toFar, farWrite]
  | false =>
    constructor <;> simp [State.carryOut, conditionalRequest, Out.none]

end Sys2Proof.Machine
end

section
/-! PROOFS. Refused requests (07_near_and_far_ports.md): the order of the checks, and all that a refusal does. -/

namespace Sys2Proof.Machine

open Sys2Proof.Claim

/-- In a list sorted by a measure, the first element that passes a test is the one of least measure that passes it. -/
theorem find?_eq_some_iff_least {α : Type} {f : α → Nat} {p : α → Bool} {l : List α}
    (hsorted : l.Pairwise fun a b => f a < f b) {x : α} :
    l.find? p = some x ↔ x ∈ l ∧ p x = true ∧ ∀ y ∈ l, f y < f x → p y = false := by
  induction l with
  | nil => simp
  | cons a l ih =>
    obtain ⟨hleast, hrest⟩ := List.pairwise_cons.mp hsorted
    cases hp : p a with
    | true =>
      rw [List.find?_cons_of_pos hp]
      constructor
      · rintro ⟨rfl⟩
        refine ⟨List.mem_cons_self, hp, List.forall_mem_cons.mpr ⟨fun h => absurd h (lt_irrefl _), ?_⟩⟩
        exact fun y hy hlt => absurd hlt (hleast y hy).asymm
      · rintro ⟨hx, -, hbefore⟩
        obtain rfl | hx := List.mem_cons.mp hx
        · rfl
        · simpa [hp] using hbefore a List.mem_cons_self (hleast x hx)
    | false =>
      rw [List.find?_cons_of_neg (by simp [hp]), ih hrest]
      grind

/-- The checks of R118, in their order. -/
def Reason.inOrder : List Reason := [.misaligned, .badSize, .badAttribute, .splitGranule, .parkedBusy, .dupTag]

/-- Every check has its place in the order. -/
theorem Reason.mem_inOrder (why : Reason) : why ∈ Reason.inOrder := by
  cases why <;> decide

/-- The order of the checks is the order of their codes in the notice record. -/
theorem Reason.inOrder_sorted : Reason.inOrder.Pairwise fun a b => a.code.toNat < b.code.toNat := by decide

/-- Alignment is divisibility of the address by the size in bytes. -/
theorem aligned_iff_dvd (a : Addr) (z : SizeCode) : aligned a z = true ↔ 2 ^ z.val ∣ a.toNat :=
  decide_eq_true_iff.trans (Nat.dvd_iff_mod_eq_zero (m := sizeBytes z)).symm

section Checks

variable (s : State) (r : Request)

/-- The granule check of the near port is the fourth row of R118. -/
theorem State.split_iff_fails : s.split r = true ↔ fails s r .splitGranule := by
  change _ ↔ r.attr ≠ .plain ∧ ∃ w, s.classify r.address = some w ∧ s.granuleBytes w < sizeBytes r.size
  simp [State.split, Option.any_eq_true]

/-- The tag check of the near port is the last row of R118. -/
theorem State.dupTag_iff_fails : s.dupTag r.master r.tag = true ↔ fails s r .dupTag := by
  simp [State.dupTag, fails, Option.any_eq_true, or_assoc]

open Classical in
/-- The near port makes the checks of R118 in their order, up to the first that fails. -/
theorem State.refusal_eq_find? : s.refusal r = Reason.inOrder.find? fun why => decide (fails s r why) := by
  have hmisaligned : (!aligned r.address r.size) = true ↔ fails s r .misaligned := by
    simp [fails, ← aligned_iff_dvd]
  have hparked : (r.attr = .linked ∧ (s.ctx r.master).parked.isSome) ↔ fails s r .parkedBusy :=
    and_congr_right' Option.isSome_iff_exists
  have hsize : r.size = 7 ↔ fails s r .badSize := Iff.rfl
  have hattribute : (r.attr = .linked ∧ r.kind = .write) ∨ (r.attr = .conditional ∧ r.kind = .read) ↔
      fails s r .badAttribute := Iff.rfl
  simp only [State.refusal, hmisaligned, hsize, hattribute, s.split_iff_fails, hparked, s.dupTag_iff_fails]
  simp only [Reason.inOrder]
  split_ifs <;> simp_all

end Checks

/-- Settles O5: the codes of the reasons grow along the checks, so the first check that fails has the least code. -/
theorem refusalFollowsCheckOrder : Obligations.RefusalFollowsCheckOrder := by
  intro s r
  rw [State.refusal_eq_find?]
  constructor
  · intro why
    simp [find?_eq_some_iff_least Reason.inOrder_sorted, Reason.mem_inOrder]
  · simp [List.find?_eq_none, Reason.mem_inOrder]

/-- Each of the four request rows offers its request at the near port. -/
theorem exec_of_requestOf {c : Instr} {r : Request} {far : Bool} (h : requestOf c = some (r, far)) (s : State) :
    exec c s = .next (s.offer r far) := by
  cases c with
  | linkedRead | conditionalWrite | plainRead | plainWrite => cases h; rfl
  | _ => cases h

/-- A request that fails a check has the disposition of a refusal, whatever the granule and the ports (R119). -/
theorem State.dispose_of_refusal {s : State} {r : Request} {why : Reason} (h : s.refusal r = some why) :
    s.dispose r = .refused why := by
  simp [State.dispose, h]

/-- What becomes of a notice depends on no reply and on nothing that moved on the channels (R135 to R137). -/
theorem State.notify_with_replies_out (s : State) (n : Notice) (l : List QueuedReply) (o : Out) :
    ({ s with replies := l, out := o }).notify n = { s.notify n with replies := l, out := o } := by
  unfold State.notify
  split_ifs <;> rfl

/-- Settles O6: a refused request needs only the open port, and its reply and its notice are independent. -/
theorem refusedRequestOnlyReports : Obligations.RefusedRequestOnlyReports := by
  intro c r far why s hrow hopen hwhy
  have hd := State.dispose_of_refusal hwhy
  have haccepted : exec c s = .next (s.quiet.carryOut r (.refused why)).took := by
    rw [exec_of_requestOf hrow, State.offer_of_portOpen far hopen hd rfl]
  rw [haccepted]
  exact congrArg (fun u => Host.Outcome.next u.took) (State.notify_with_replies_out s _ _ _)

end Sys2Proof.Machine
end

section
/-! SUPPORT. The records of flight-list entries and released reads: what an update of a mark, a holder-entry or an arming
mode changes, and which updates no write in flight can see. -/

namespace Sys2Proof.Machine

/-! Access to a state given field by field, as an update `{ s with … }` gives it. -/

section Access

variable (w : Vector Window 4) (mon : Bool) (sc : BitVec 2) (mask : BitVec 6) (ctxs : Vector Context 16) (fl : List Flight)
  (hz : List Master) (nm : Vector Bool 128) (rel : List Released) (ct : Vector Entry 32) (rep : List QueuedReply)
  (ntc : List Notice) (ov dm : Bool) (link : Link) (st sl : Nat) (ae : Bool) (uc : Nat) (run low res : Bool) (out : Out)
  (draws : Nat) (pend : List Instr)

@[simp] theorem State.ctx_mk (m : Master) :
    (State.mk w mon sc mask ctxs fl hz nm rel ct rep ntc ov dm link st sl ae uc run low res out draws pend).ctx m =
      ctxs[m.val] := rfl

@[simp] theorem State.entry_mk (e : EntryIx) :
    (State.mk w mon sc mask ctxs fl hz nm rel ct rep ntc ov dm link st sl ae uc run low res out draws pend).entry e = ct[e.val] :=
  rfl

@[simp] theorem State.window_mk (i : WindowIx) :
    (State.mk w mon sc mask ctxs fl hz nm rel ct rep ntc ov dm link st sl ae uc run low res out draws pend).window i = w[i.val] :=
  rfl

@[simp] theorem State.nomonMark_mk (m : Master) (t : Tag) :
    (State.mk w mon sc mask ctxs fl hz nm rel ct rep ntc ov dm link st sl ae uc run low res out draws pend).nomonMark m t =
      nm[(nomonIx m t).val] := rfl

@[simp] theorem State.contexts_getElem (s : State) (m : Master) : s.contexts[m.val] = s.ctx m := rfl
@[simp] theorem State.contention_getElem (s : State) (e : EntryIx) : s.contention[e.val] = s.entry e := rfl
@[simp] theorem State.windows_getElem (s : State) (i : WindowIx) : s.windows[i.val] = s.window i := rfl
@[simp] theorem State.nomon_getElem (s : State) (m : Master) (t : Tag) : s.nomon[(nomonIx m t).val] = s.nomonMark m t := rfl

end Access

/-! Flight-list entries. -/

section Flights

variable (f : Flight) (p : Master → Bool) (m : Master) (e : EntryIx)

@[simp] theorem Flight.unmark_master : (f.unmark p).master = f.master := by
  unfold Flight.unmark; split <;> [split_ifs <;> rfl; rfl]
@[simp] theorem Flight.unmark_tag : (f.unmark p).tag = f.tag := by
  unfold Flight.unmark; split <;> [split_ifs <;> rfl; rfl]
@[simp] theorem Flight.unmark_address : (f.unmark p).address = f.address := by
  unfold Flight.unmark; split <;> [split_ifs <;> rfl; rfl]
@[simp] theorem Flight.unmark_range : (f.unmark p).range = f.range := by
  unfold Flight.unmark; split <;> [split_ifs <;> rfl; rfl]
@[simp] theorem Flight.unmark_isWrite : (f.unmark p).isWrite = f.isWrite := by
  cases f with | mk kind => cases kind <;> simp [Flight.unmark, Flight.isWrite]; split_ifs <;> rfl
@[simp] theorem Flight.unmark_armed : (f.unmark p).armed = (f.armed && !p f.master) := by
  cases f with | mk kind => cases kind <;> simp [Flight.unmark, Flight.armed]; split_ifs <;> simp_all
@[simp] theorem Flight.unmark_holderEntry : (f.unmark p).holderEntry = f.holderEntry := by
  cases f with | mk kind => cases kind <;> simp [Flight.unmark, Flight.holderEntry]; split_ifs <;> rfl

@[simp] theorem Flight.dropHolder_master : (f.dropHolder m e).master = f.master := by
  unfold Flight.dropHolder; split <;> [split_ifs <;> rfl; rfl]
@[simp] theorem Flight.dropHolder_tag : (f.dropHolder m e).tag = f.tag := by
  unfold Flight.dropHolder; split <;> [split_ifs <;> rfl; rfl]
@[simp] theorem Flight.dropHolder_range : (f.dropHolder m e).range = f.range := by
  unfold Flight.dropHolder; split <;> [split_ifs <;> rfl; rfl]
@[simp] theorem Flight.dropHolder_isWrite : (f.dropHolder m e).isWrite = f.isWrite := by
  cases f with | mk kind => cases kind <;> simp [Flight.dropHolder, Flight.isWrite]; split_ifs <;> rfl
@[simp] theorem Flight.dropHolder_armed : (f.dropHolder m e).armed = f.armed := by
  cases f with | mk kind => cases kind <;> simp [Flight.dropHolder, Flight.armed]; split_ifs <;> rfl
@[simp] theorem Flight.dropHolder_holderEntry :
    (f.dropHolder m e).holderEntry = if f.master = m ∧ f.holderEntry = some e then none else f.holderEntry := by
  cases f with | mk kind => cases kind <;> grind [Flight.dropHolder, Flight.holderEntry]

end Flights

/-! Released reads. -/

section Reads

variable (r : Released) (p : Released → Bool)

@[simp] theorem Released.disarm_master : (r.disarm p).master = r.master := by unfold Released.disarm; split_ifs <;> rfl
@[simp] theorem Released.disarm_tag : (r.disarm p).tag = r.tag := by unfold Released.disarm; split_ifs <;> rfl
@[simp] theorem Released.disarm_granule : (r.disarm p).granule = r.granule := by
  unfold Released.disarm; split_ifs <;> rfl
@[simp] theorem Released.disarm_arms : (r.disarm p).arms = (r.arms && !p r) := by
  unfold Released.disarm Released.arms ArmMode.disarm
  split_ifs <;> cases r.mode <;> simp_all
@[simp] theorem Released.disarm_holderEntry : (r.disarm p).holderEntry = if p r then none else r.holderEntry := by
  unfold Released.disarm Released.holderEntry ArmMode.disarm
  split_ifs <;> cases r.mode <;> simp_all
@[simp] theorem Released.disarm_mode_plain : (r.disarm p).mode = .plain ↔ r.mode = .plain := by
  unfold Released.disarm ArmMode.disarm
  split_ifs <;> cases r.mode <;> simp_all

/-- A released read whose holder-entry names an entry will arm. -/
theorem Released.arms_of_holderEntry {r : Released} {e : EntryIx} (h : r.holderEntry = some e) : r.arms = true := by
  unfold Released.holderEntry at h
  unfold Released.arms
  cases hr : r.mode <;> simp_all

/-- A released read that will arm is not PLAIN. -/
theorem Released.not_plain_of_arms {r : Released} (h : r.arms = true) : r.mode ≠ .plain := by
  intro hp
  simp [Released.arms, hp] at h

end Reads

/-! Cover. -/

/-- What a range includes depends on the window table alone. -/
theorem State.inRange_congr {s t : State} (h : s.windows = t.windows) (r : GranuleRange) (g : Granule) :
    s.inRange r g = t.inRange r g := by
  simp only [State.inRange, State.granuleBytes, State.window, h]

/-- A write in flight covers a granule. -/
theorem State.covered_iff (s : State) (g : Granule) :
    s.covered g = true ↔ ∃ f ∈ s.flight, f.isWrite = true ∧ s.inRange f.range g = true := by
  simp [State.covered]

theorem State.not_covered_iff (s : State) (g : Granule) :
    s.covered g = false ↔ ∀ f ∈ s.flight, f.isWrite = true → s.inRange f.range g = false := by
  simp [State.covered]

/-- An update of the flight list that keeps each entry's range and direction covers the same granules. -/
theorem State.covered_of_map {s u : State} (hw : u.windows = s.windows) {φ : Flight → Flight}
    (hf : u.flight = s.flight.map φ) (hrange : ∀ f, (φ f).range = f.range) (hwrite : ∀ f, (φ f).isWrite = f.isWrite)
    (g : Granule) : u.covered g = s.covered g := by
  simp only [State.covered, hf, List.any_map, Function.comp_def, hrange, hwrite, State.inRange_congr hw]

/-- Cover depends on the window table and the flight list alone. -/
theorem State.covered_congr {s t : State} (hw : s.windows = t.windows) (hf : s.flight = t.flight) (g : Granule) :
    s.covered g = t.covered g := by
  simp only [State.covered, hf, State.inRange_congr hw]

end Sys2Proof.Machine
end

section
/-! SUPPORT. The laws of the device master by master and entry by entry, and the updates that only clear reservations,
marks, holder-entries and arming modes: such an update keeps them all. -/

namespace Sys2Proof.Machine

open Sys2Proof.Safety

/-- The laws of `Safety.Coherent` but for the tenures and the DRAIN exit (which a holder release and a tenure unit break
for a moment), each read as a statement about one master, one entry and one record. -/
structure Agree (s : State) : Prop where
  table : TableLegal s
  reserved : ∀ m g, (s.ctx m).reservation = some g → s.active g.window = true
  parkedActive : ∀ m p, (s.ctx m).parked = some p → s.active p.granule.window = true
  releasedActive : ∀ r ∈ s.released, r.mode ≠ .plain → s.active r.granule.window = true
  queueNodup : ∀ e, (s.entry e).queue.Nodup
  queued : ∀ e m, m ∈ (s.entry e).queue ↔ ∃ p, (s.ctx m).parked = some p ∧ p.reason = .queue e
  queuedOn : ∀ e m p, (s.ctx m).parked = some p → p.reason = .queue e → p.granule = (s.entry e).granule
  hazardNodup : s.hazard.Nodup
  hazarded : ∀ m, m ∈ s.hazard ↔ ∃ p, (s.ctx m).parked = some p ∧ p.reason = .hazard
  holders : ∀ e m, (s.entry e).holder = some m ↔ (s.ctx m).holdership = some e
  waiters : ∀ m e p, (s.ctx m).holdership = some e → (s.ctx m).parked = some p →
    p.reason = .hazard ∧ p.granule = (s.entry e).granule
  unreserved : ∀ m p, (s.ctx m).parked = some p → (s.ctx m).reservation = none
  unarmed : ∀ m p, (s.ctx m).parked = some p → ∀ r ∈ s.released, r.master = m → r.arms = false
  law4 : ∀ e m, (s.entry e).serving = true → (s.ctx m).reservation = some (s.entry e).granule →
    (s.entry e).holder = some m
  arming : ∀ e, (s.entry e).serving = true → ∀ r ∈ s.released, r.arms = true → r.granule = (s.entry e).granule →
    (s.entry e).holder = some r.master ∧ r.holderEntry = some e
  rereads : ∀ e m p, (s.entry e).serving = true → (s.ctx m).parked = some p → p.reason = .hazard →
    p.granule = (s.entry e).granule → (s.entry e).holder = some m
  flightNamed : ∀ f ∈ s.flight, ∀ e, f.holderEntry = some e → (s.entry e).holder = some f.master
  releasedNamed : ∀ r ∈ s.released, ∀ e, r.holderEntry = some e →
    (s.entry e).holder = some r.master ∧ r.granule = (s.entry e).granule
  marks : ∀ f ∈ s.flight, f.armed = true → ∃ g, (s.ctx f.master).reservation = some g ∧ g.base = f.range.first
  oneMark : OneMarkEach s
  tracked : ∀ e i, (s.entry e).state ≠ .free → (s.entry i).state ≠ .free →
    (s.entry e).granule = (s.entry i).granule → e = i
  trackedActive : ∀ e, (s.entry e).state ≠ .free → s.active (s.entry e).granule.window = true
  trackedAllowed : ∀ e, (s.entry e).state ≠ .free → (s.window (s.entry e).granule.window).queuedAllowed = true
  law6 : ∀ r ∈ s.released, r.mode ≠ .plain → s.covered r.granule = false
  law10 : StatesMatch s

/-- The records agree exactly when the laws hold one by one. -/
theorem coherent_iff (s : State) : Coherent s ↔ Agree s ∧ TenureMatches s ∧ DrainServes s := by
  constructor
  · intro h
    refine ⟨?_, h.tenures, h.drains⟩
    obtain ⟨table, law1, ⟨reads1, reads2⟩, queues, ⟨hz1, hz2⟩, holders, waiters, unarmed, law4, arming, rereads, ⟨named1, named2⟩,
      marks, oneMark, ⟨law51, law52⟩, law6, law10, -, -⟩ := h
    simp only [ReservationsActive, ParkedHoldsOwn, ParkedUnarmed, HazardOpenOrHeld, MarksMatch, QueuesMatch, waitsIn,
      Option.all_eq_true, Option.any_eq_true, Bool.and_eq_true, decide_eq_true_eq, Option.isSome_iff_exists,
      forall_exists_index, and_imp] at law1 reads1 queues hz2 waiters unarmed rereads named1 named2 marks
    exact {
      table := table, reserved := law1, parkedActive := reads1, releasedActive := reads2
      queueNodup := fun e => (queues e).1
      queued := fun e m => ⟨fun hm => by obtain ⟨p, hp, hr, -⟩ := (queues e).2.1 m hm; exact ⟨p, hp, hr⟩,
        fun ⟨p, hp, hr⟩ => (queues e).2.2 m p hp hr⟩
      queuedOn := fun e m p hp hr => by
        obtain ⟨q, hq, -, hg⟩ := (queues e).2.1 m ((queues e).2.2 m p hp hr)
        grind
      hazardNodup := hz1, hazarded := hz2, holders := holders, waiters := fun m e p he hp => waiters m e he p hp
      unreserved := fun m p hp => (unarmed m p hp).1, unarmed := fun m p hp => (unarmed m p hp).2
      law4 := law4, arming := arming, rereads := fun e m p hs hp hr hg => rereads e m hs p hp hr hg
      flightNamed := named1, releasedNamed := named2, marks := marks, oneMark := oneMark, tracked := law51
      trackedActive := fun e he => (law52 e he).1, trackedAllowed := fun e he => (law52 e he).2
      law6 := law6, law10 := law10 }
  · rintro ⟨h, tenures, drains⟩
    refine { table := h.table, oneMark := h.oneMark, law6 := h.law6, law10 := h.law10, tenures := tenures, drains := drains,
             law4 := h.law4, arming := h.arming, holders := h.holders, law1 := ?_, reads := ?_, queues := ?_, hazards := ?_,
             waiters := ?_, unarmed := ?_, rereads := ?_, named := ?_, marks := ?_, law5 := ?_ }
    all_goals
      simp only [ReservationsActive, ReadsActive, ParkedHoldsOwn, ParkedUnarmed, HazardOpenOrHeld, MarksMatch, QueuesMatch,
        HazardMatches, HolderEntriesCurrent, EntriesTrack, waitsIn, Option.all_eq_true, Option.any_eq_true,
        Bool.and_eq_true, decide_eq_true_eq, Option.isSome_iff_exists, forall_exists_index, and_imp]
    · exact h.reserved
    · exact ⟨h.parkedActive, h.releasedActive⟩
    · refine fun e => ⟨h.queueNodup e, fun m hm => ?_, fun m p hp hr => (h.queued e m).mpr ⟨p, hp, hr⟩⟩
      obtain ⟨p, hp, hr⟩ := (h.queued e m).mp hm
      exact ⟨p, hp, hr, h.queuedOn e m p hp hr⟩
    · exact ⟨h.hazardNodup, h.hazarded⟩
    · exact fun m e he p hp => h.waiters m e p he hp
    · exact fun m p hp => ⟨h.unreserved m p hp, h.unarmed m p hp⟩
    · exact fun e m hs p hp hr hg => h.rereads e m p hs hp hr hg
    · exact ⟨h.flightNamed, h.releasedNamed⟩
    · exact h.marks
    · exact ⟨h.tracked, fun e he => ⟨h.trackedActive e he, h.trackedAllowed e he⟩⟩

/-! Updates that only loosen. -/

/-- An entry of the flight list after an update that at most clears its mark or its holder-entry; a mark stays only where
its master's reservation does. -/
structure Flight.Loosened (kept : Master → Prop) (f f' : Flight) : Prop where
  master : f'.master = f.master
  tag : f'.tag = f.tag
  range : f'.range = f.range
  isWrite : f'.isWrite = f.isWrite
  armed : f'.armed = true → f.armed = true ∧ kept f.master
  holderEntry : f'.holderEntry = f.holderEntry ∨ f'.holderEntry = none

/-- A released read after an update that at most disarms it. -/
def Released.Loosened (r r' : Released) : Prop := r' = r ∨ r.mode ≠ .plain ∧ r' = { r with mode := .disarmed }

/-- `u` has the records of `s`, but for reservations, armed marks, holder-entries and arming modes, some of which are
cleared. -/
structure Loosened (s u : State) : Prop where
  windows : u.windows = s.windows
  mon : u.mon = s.mon
  contention : u.contention = s.contention
  hazard : u.hazard = s.hazard
  parked : ∀ m, (u.ctx m).parked = (s.ctx m).parked
  holdership : ∀ m, (u.ctx m).holdership = (s.ctx m).holdership
  reservation : ∀ m, (u.ctx m).reservation = (s.ctx m).reservation ∨ (u.ctx m).reservation = none
  flight : ∃ φ : Flight → Flight, u.flight = s.flight.map φ ∧
    ∀ f, Flight.Loosened (fun m => (u.ctx m).reservation = (s.ctx m).reservation) f (φ f)
  released : ∃ ψ : Released → Released, u.released = s.released.map ψ ∧ ∀ r, Released.Loosened r (ψ r)

theorem Flight.Loosened.refl {kept : Master → Prop} (f : Flight) (h : kept f.master) : Flight.Loosened kept f f :=
  ⟨rfl, rfl, rfl, rfl, fun ha => ⟨ha, h⟩, .inl rfl⟩

theorem Released.Loosened.disarm (r : Released) (p : Released → Bool) : Released.Loosened r (r.disarm p) := by
  unfold Released.Loosened Released.disarm ArmMode.disarm
  split_ifs with h
  · cases r with | mk m t a z g mode => cases mode <;> simp
  · exact .inl rfl

theorem Loosened.refl (s : State) : Loosened s s :=
  ⟨rfl, rfl, rfl, rfl, fun _ => rfl, fun _ => rfl, fun _ => .inl rfl,
    ⟨id, by simp, fun f => Flight.Loosened.refl f rfl⟩, ⟨id, by simp, fun _ => .inl rfl⟩⟩

theorem Loosened.trans {s t u : State} (h : Loosened s t) (k : Loosened t u) : Loosened s u := by
  obtain ⟨φ, hφ, hφ'⟩ := h.flight
  obtain ⟨χ, hχ, hχ'⟩ := k.flight
  obtain ⟨ψ, hψ, hψ'⟩ := h.released
  obtain ⟨ω, hω, hω'⟩ := k.released
  refine ⟨k.windows.trans h.windows, k.mon.trans h.mon, k.contention.trans h.contention, k.hazard.trans h.hazard,
    fun m => (k.parked m).trans (h.parked m), fun m => (k.holdership m).trans (h.holdership m), fun m => ?_,
    ⟨χ ∘ φ, by simp [hχ, hφ], fun f => ?_⟩, ⟨ω ∘ ψ, by simp [hω, hψ], fun r => ?_⟩⟩
  · have := h.reservation m
    have := k.reservation m
    grind
  · have a := hφ' f
    have b := hχ' (φ f)
    exact ⟨b.master.trans a.master, b.tag.trans a.tag, b.range.trans a.range, b.isWrite.trans a.isWrite,
      fun hb => ⟨(a.armed (b.armed hb).1).1, by
        have h1 := (b.armed hb).2
        have h2 := (a.armed (b.armed hb).1).2
        rw [a.master] at h1
        exact h1.trans h2⟩, by
      obtain hb | hb := b.holderEntry
      · rw [Function.comp_apply, hb]; exact a.holderEntry
      · exact .inr hb⟩
  · have a := hψ' r
    have b := hω' (ψ r)
    unfold Released.Loosened at *
    grind

section Loosened

variable {s u : State} (h : Loosened s u)
include h

theorem Loosened.entry (e : EntryIx) : u.entry e = s.entry e := State.entry_congr h.contention e

theorem Loosened.window (w : WindowIx) : u.window w = s.window w := by simp only [State.window, h.windows]

theorem Loosened.active (w : WindowIx) : u.active w = s.active w := by simp only [State.active, h.window, h.mon]

theorem Loosened.covered (g : Granule) : u.covered g = s.covered g := by
  obtain ⟨φ, hφ, hf⟩ := h.flight
  exact State.covered_of_map h.windows hφ (fun f => (hf f).range) (fun f => (hf f).isWrite) g

/-- Every reservation left was there before. -/
theorem Loosened.reservation_some {m : Master} {g : Granule} (hg : (u.ctx m).reservation = some g) :
    (s.ctx m).reservation = some g := by
  have := h.reservation m
  grind

/-- Every entry of the flight list was there before, with its mark and holder-entry or more. -/
theorem Loosened.mem_flight {f' : Flight} (hf : f' ∈ u.flight) :
    ∃ f ∈ s.flight, Flight.Loosened (fun m => (u.ctx m).reservation = (s.ctx m).reservation) f f' := by
  obtain ⟨φ, hφ, hall⟩ := h.flight
  rw [hφ, List.mem_map] at hf
  obtain ⟨f, hf, rfl⟩ := hf
  exact ⟨f, hf, hall f⟩

/-- Every released read was there before, armed as much or more. -/
theorem Loosened.mem_released {r' : Released} (hr : r' ∈ u.released) :
    ∃ r ∈ s.released, r'.master = r.master ∧ r'.granule = r.granule ∧ (r'.mode ≠ .plain → r.mode ≠ .plain) ∧
      (r'.arms = true → r' = r) := by
  obtain ⟨ψ, hψ, hall⟩ := h.released
  rw [hψ, List.mem_map] at hr
  obtain ⟨r, hr, rfl⟩ := hr
  refine ⟨r, hr, ?_⟩
  obtain hsame | ⟨hplain, hdis⟩ := hall r
  · simp [hsame]
  · rw [hdis]; simp [hplain, Released.arms]

/-- Loosening keeps the laws. -/
theorem Loosened.agree (hs : Agree s) : Agree u where
  table := by
    have := hs.table
    simpa only [TableLegal, h.window] using this
  reserved m g hg := (h.active _).trans (hs.reserved m g (h.reservation_some hg))
  parkedActive m p hp := (h.active _).trans (hs.parkedActive m p ((h.parked m).symm.trans hp))
  releasedActive r' hr hmode := by
    obtain ⟨r, hr, -, hg, hm, -⟩ := h.mem_released hr
    rw [h.active, hg]
    exact hs.releasedActive r hr (hm hmode)
  queueNodup e := by rw [h.entry]; exact hs.queueNodup e
  queued e m := by rw [h.entry, h.parked]; exact hs.queued e m
  queuedOn e m p := by rw [h.entry, h.parked]; exact hs.queuedOn e m p
  hazardNodup := by rw [h.hazard]; exact hs.hazardNodup
  hazarded m := by rw [h.hazard, h.parked]; exact hs.hazarded m
  holders e m := by rw [h.entry, h.holdership]; exact hs.holders e m
  waiters m e p := by rw [h.entry, h.holdership, h.parked]; exact hs.waiters m e p
  unreserved m p hp := by
    have := hs.unreserved m p ((h.parked m).symm.trans hp)
    obtain hr | hr := h.reservation m
    · exact hr.trans this
    · exact hr
  unarmed m p hp r' hr hm := by
    obtain ⟨r, hr, hmaster, -, -, harm⟩ := h.mem_released hr
    by_contra hne
    have heq := harm (by simpa using hne)
    exact hne (heq ▸ hs.unarmed m p ((h.parked m).symm.trans hp) r hr (hmaster ▸ hm))
  law4 e m hserv hg := by
    rw [h.entry] at *
    exact hs.law4 e m hserv (h.reservation_some hg)
  arming e hserv r' hr ha hg := by
    rw [h.entry] at *
    obtain ⟨r, hr, -, -, -, harm⟩ := h.mem_released hr
    obtain rfl := harm ha
    exact hs.arming e hserv _ hr ha hg
  rereads e m p := by rw [h.entry, h.parked]; exact hs.rereads e m p
  flightNamed f' hf e he := by
    obtain ⟨f, hf, hl⟩ := h.mem_flight hf
    rw [h.entry, hl.master]
    exact hs.flightNamed f hf e (by have := hl.holderEntry; grind)
  releasedNamed r' hr e he := by
    obtain ⟨r, hr, -, -, -, harm⟩ := h.mem_released hr
    obtain rfl := harm (Released.arms_of_holderEntry he)
    rw [h.entry]
    exact hs.releasedNamed _ hr e he
  marks f' hf ha := by
    obtain ⟨f, hf, hl⟩ := h.mem_flight hf
    obtain ⟨hfa, hkept⟩ := hl.armed ha
    rw [hl.master, hkept, hl.range]
    exact hs.marks f hf hfa
  oneMark := by
    obtain ⟨φ, hφ, hall⟩ := h.flight
    unfold OneMarkEach
    rw [hφ, List.pairwise_map]
    refine hs.oneMark.imp fun {f g} hfg hf hg => ?_
    rw [(hall f).master, (hall g).master]
    exact hfg ((hall f).armed hf).1 ((hall g).armed hg).1
  tracked e i := by rw [h.entry, h.entry]; exact hs.tracked e i
  trackedActive e := by rw [h.entry, h.active]; exact hs.trackedActive e
  trackedAllowed e := by rw [h.entry, h.window]; exact hs.trackedAllowed e
  law6 r' hr hmode := by
    obtain ⟨r, hr, -, hg, hm, -⟩ := h.mem_released hr
    rw [h.covered, hg]
    exact hs.law6 r hr (hm hmode)
  law10 := by
    have := hs.law10
    simpa only [StatesMatch, h.entry] using this

end Loosened

/-- The clearing of reservations loosens. -/
theorem State.loosened_clearReservations (s : State) (p : Master → Bool) : Loosened s (s.clearReservations p) where
  windows := by simp
  mon := by simp
  contention := by simp
  hazard := by simp
  parked m := by rw [State.clearReservations_ctx]; split_ifs <;> rfl
  holdership m := by rw [State.clearReservations_ctx]; split_ifs <;> rfl
  reservation m := by rw [State.clearReservations_ctx]; split_ifs <;> simp
  flight := ⟨Flight.unmark p, by simp, fun f => ⟨by simp, by simp, by simp, by simp, fun ha => by
    simp only [Flight.unmark_armed, Bool.and_eq_true, Bool.not_eq_true'] at ha
    simp [ha], by simp⟩⟩
  released := ⟨_, State.clearReservations_released s p, fun r => Released.Loosened.disarm r _⟩

theorem State.loosened_clearReservation (s : State) (m : Master) : Loosened s (s.clearReservation m) :=
  s.loosened_clearReservations _

theorem State.loosened_clearRange (s : State) (r : GranuleRange) : Loosened s (s.clearRange r) :=
  s.loosened_clearReservations _

theorem State.loosened_clearOwn (s : State) (m : Master) (g : Granule) : Loosened s (s.clearOwn m g) := by
  unfold State.clearOwn
  split_ifs
  · exact s.loosened_clearReservation m
  · exact Loosened.refl s

/-- The end of a holdership's names loosens. -/
theorem State.loosened_forgetHolder (s : State) (m : Master) (e : EntryIx) : Loosened s (s.forgetHolder m e) where
  windows := rfl
  mon := rfl
  contention := rfl
  hazard := rfl
  parked _ := rfl
  holdership _ := rfl
  reservation _ := .inl rfl
  flight := ⟨_, rfl, fun f => ⟨by simp, by simp, by simp, by simp, fun ha => ⟨by simpa using ha, rfl⟩, by
    simp only [Flight.dropHolder_holderEntry]; split_ifs <;> simp⟩⟩
  released := ⟨_, rfl, fun r => Released.Loosened.disarm r _⟩

/-- The disarming of the reads on a granule loosens. -/
theorem State.loosened_disarmGranule (s : State) (g : Granule) : Loosened s (s.disarmGranule g) where
  windows := rfl
  mon := rfl
  contention := rfl
  hazard := rfl
  parked _ := rfl
  holdership _ := rfl
  reservation _ := .inl rfl
  flight := ⟨id, by simp, fun f => Flight.Loosened.refl f rfl⟩
  released := ⟨_, rfl, fun r => Released.Loosened.disarm r _⟩

end Sys2Proof.Machine
end

section
/-! SUPPORT. A holder release in the words of the obligations: `State.endHolding` is `letGo`, and `State.settle` after it is
`settled` (R99, R94, R102). -/

namespace Sys2Proof.Machine

open Sys2Proof.Safety Sys2Proof.Claim

/-- Two states are equal when every record and every other field is. -/
theorem State.ext {s u : State} (windows : s.windows = u.windows) (mon : s.mon = u.mon)
    (sampleCode : s.sampleCode = u.sampleCode) (mask : s.mask = u.mask) (ctx : ∀ m, s.ctx m = u.ctx m)
    (flight : s.flight = u.flight) (hazard : s.hazard = u.hazard) (nomon : s.nomon = u.nomon)
    (released : s.released = u.released) (entry : ∀ e, s.entry e = u.entry e) (replies : s.replies = u.replies)
    (notices : s.notices = u.notices) (overflow : s.overflow = u.overflow) (discardMark : s.discardMark = u.discardMark)
    (link : s.link = u.link) (sampleTimer : s.sampleTimer = u.sampleTimer) (sampleLength : s.sampleLength = u.sampleLength)
    (atExpiry : s.atExpiry = u.atExpiry) (unitCounter : s.unitCounter = u.unitCounter)
    (refclkRunning : s.refclkRunning = u.refclkRunning) (resetLow : s.resetLow = u.resetLow)
    (inReset : s.inReset = u.inReset) (out : s.out = u.out) (draws : s.draws = u.draws) (pending : s.pending = u.pending) :
    s = u := by
  have hc := State.contexts_ext ctx
  have he := State.contention_ext entry
  cases s; cases u
  simp_all

/-- Clearing a reservation in the obligations' words. -/
theorem unreserved_eq (m : Master) (s : State) : unreserved m s = s.clearReservation m := by
  apply State.ext <;> intros <;>
    simp [unreserved, unmarked, disarmed, State.clearReservation, State.clearReservations_ctx]

/-- What `State.clearOwn` makes of the contexts. -/
@[simp] theorem State.clearOwn_ctx (s : State) (m i : Master) (g : Granule) :
    (s.clearOwn m g).ctx i =
      if i = m ∧ (s.ctx m).reservation = some g then { s.ctx i with reservation := none } else s.ctx i := by
  unfold State.clearOwn
  split_ifs with h1 h2 h2 <;> simp_all

/-- `State.clearOwn` is judged by its master's reservation and changes the flight list and the arbiter with it. -/
theorem State.clearOwn_lists (s : State) (m : Master) (g : Granule) :
    (s.clearOwn m g).flight = (if (s.ctx m).reservation = some g then unmarked m s.flight else s.flight) ∧
      (s.clearOwn m g).released = (if (s.ctx m).reservation = some g then disarmed m s.released else s.released) := by
  unfold State.clearOwn
  split_ifs <;> simp [State.clearReservation, unmarked, disarmed]

/-- The hazard read of a master on a granule stands in the hazard list. -/
theorem mem_hazard_and_parkedOn_iff {s : State} (hz : HazardMatches s) (m : Master) (g : Granule) :
    (m ∈ s.hazard ∧ s.parkedOn m g = true) ↔
      ((s.ctx m).parked.any fun p => decide (p.reason = .hazard) && decide (p.granule = g)) = true := by
  rw [hz.2 m, State.parkedOn]
  cases (s.ctx m).parked <;> simp

/-- In a list without repetition, the elements that are m and meet a test. -/
theorem filter_eq_and {l : List Master} (hl : l.Nodup) (m : Master) (p : Master → Bool) :
    (l.filter fun k => decide (k = m) && p k) = if m ∈ l ∧ p m = true then [m] else [] := by
  have h : (fun k => decide (k = m) && p k) = fun k => decide (k = m) && p m := by
    funext k; by_cases hk : k = m <;> simp [hk]
  rw [h]
  cases hp : p m
  · simp
  · by_cases hm : m ∈ l
    · simp [hm, List.filter_eq, List.count_eq_one_of_mem hl hm]
    · simp [hm, List.filter_eq, List.count_eq_zero_of_not_mem hm]

section LetGo

variable (s : State) (m : Master) (e : EntryIx)

/-- The hazard re-read that a holder release moves to the queue. -/
def State.rereads (s : State) (m : Master) (e : EntryIx) : Bool :=
  (s.ctx m).parked.any fun p => decide (p.reason = .hazard) && decide (p.granule = (s.entry e).granule)

/-- The context of the master let go, and of every other. -/
theorem letGo_ctx (i : Master) :
    (letGo m e s).ctx i = if i = m then
        { reservation := if (s.ctx m).reservation = some (s.entry e).granule then none else (s.ctx m).reservation
          parked := (s.ctx m).parked.map fun p => if s.rereads m e then { p with reason := .queue e } else p
          holdership := none }
      else s.ctx i := by
  unfold letGo
  simp only [State.ctx_mk, State.contexts_getElem, State.updEntry_ctx, State.ctx_updCtx, decide_eq_true_eq]
  split_ifs with h1 h2 <;> simp_all [unreserved_eq, State.rereads]

/-- The entry let go, and every other. -/
theorem letGo_entry (i : EntryIx) :
    (letGo m e s).entry i = if i = e then
        { s.entry i with
          holder := none, tenure := 0, queue := if s.rereads m e then (s.entry i).queue ++ [m] else (s.entry i).queue }
      else s.entry i := by
  unfold letGo
  simp only [State.entry_mk, State.contention_getElem, State.entry_updEntry, State.updCtx_entry, decide_eq_true_eq]
  split_ifs <;> simp_all [unreserved_eq, State.rereads]

/-- A holder release changes the reservation file, the lists, the arbiter and the contention table only. -/
theorem letGo_frame :
    letGo m e s = { s with contexts := (letGo m e s).contexts, contention := (letGo m e s).contention,
                           flight := ((s.clearOwn m (s.entry e).granule).forgetHolder m e).flight,
                           released := ((s.clearOwn m (s.entry e).granule).forgetHolder m e).released,
                           hazard := if s.rereads m e then s.hazard.filter (fun i => decide (i ≠ m)) else s.hazard } := by
  obtain ⟨hf, hr⟩ := s.clearOwn_lists m (s.entry e).granule
  rw [letGo]
  by_cases hg : (s.ctx m).reservation = some (s.entry e).granule <;>
    simp [hg, unreserved_eq, State.updEntry, State.updCtx, State.mapEntries, State.mapCtx, unnamed, State.forgetHolder,
      State.rereads, hf, hr, State.clearReservation, unmarked, disarmed]

/-- The end of a holdership is what the obligations call letting go. -/
theorem State.endHolding_eq_letGo {s : State} {m : Master} {e : EntryIx} (hz : HazardMatches s)
    (hh : (s.entry e).holder = some m) : s.endHolding e = letGo m e s := by
  have hback : ∀ k, (k ∈ s.hazard ∧ decide (k = m) = true ∧ s.parkedOn k (s.entry e).granule = true) ↔
      k = m ∧ s.rereads m e = true := fun k => by
    have := mem_hazard_and_parkedOn_iff hz m (s.entry e).granule
    unfold State.rereads
    constructor
    · rintro ⟨h1, h2, h3⟩; obtain rfl := of_decide_eq_true h2; exact ⟨rfl, this.mp ⟨h1, h3⟩⟩
    · rintro ⟨rfl, h⟩; exact ⟨(this.mpr h).1, by simp, (this.mpr h).2⟩
  have hqueue : (s.hazard.filter fun k => decide (k = m) && s.parkedOn k (s.entry e).granule) =
      if s.rereads m e then [m] else [] := by
    rw [filter_eq_and hz.1]
    exact if_congr (mem_hazard_and_parkedOn_iff hz m (s.entry e).granule) rfl rfl
  have hpark : ∀ k, ((((((s.updEntry e fun x => { x with holder := none, tenure := 0 }).updCtx m
      fun c => { c with holdership := none }).clearOwn m (s.entry e).granule).forgetHolder m e)).parkedOn k
        (s.entry e).granule) = s.parkedOn k (s.entry e).granule := by
    intro k
    simp only [State.parkedOn, State.forgetHolder_ctx, State.clearOwn_ctx, State.ctx_updCtx, State.updEntry_ctx]
    split_ifs <;> rfl
  rw [letGo_frame]
  refine State.ext ?_ ?_ ?_ ?_ (fun i => ?ctx) ?flight ?hazard ?_ ?released (fun i => ?entry) ?_ ?_ ?_ ?_ ?_ ?_ ?_ ?_ ?_ ?_
    ?_ ?_ ?_ ?_ ?_
  case ctx =>
    change _ = (letGo m e s).ctx i
    rw [letGo_ctx]
    have hb := hback i
    simp only [State.endHolding, hh, State.hazardToQueue_ctx, hpark, State.forgetHolder_entry, State.clearOwn_entry,
      State.updCtx_entry, State.entry_updEntry, if_true, State.forgetHolder_hazard, State.clearOwn_hazard,
      State.updCtx_hazard, State.updEntry_hazard, hb]
    simp only [State.forgetHolder_ctx, State.clearOwn_ctx, State.ctx_updCtx, State.updEntry_ctx]
    by_cases hi : i = m
    · subst hi
      cases hre : s.rereads i e <;> simp <;> split_ifs <;> simp_all
    · simp [hi]
  case entry =>
    change _ = (letGo m e s).entry i
    rw [letGo_entry, State.endHolding_entry hh, hqueue]
    split_ifs <;> simp
  case hazard =>
    simp only [State.endHolding, hh, State.hazardToQueue_hazard, hpark, State.forgetHolder_entry, State.clearOwn_entry,
      State.updCtx_entry, State.entry_updEntry, if_true, State.forgetHolder_hazard, State.clearOwn_hazard,
      State.updCtx_hazard, State.updEntry_hazard]
    split_ifs with h <;> [refine List.filter_congr fun k hk => ?_; refine List.filter_eq_self.mpr fun k hk => ?_] <;>
      have := hback k <;> grind
  case flight =>
    simp only [State.endHolding, hh, State.hazardToQueue_flight, State.forgetHolder, State.clearOwn_lists]
    simp
  case released =>
    simp only [State.endHolding, hh, State.hazardToQueue_released, State.forgetHolder, State.clearOwn_lists]
    simp
  all_goals simp

end LetGo

/-- The grant to the head of a queue, in the obligations' words. -/
theorem State.grant_eq_grantedTo {s : State} {e : EntryIx} {k : Master} {rest : List Master}
    (hq : (s.entry e).queue = k :: rest) : s.grant e k = grantedTo k rest e s := by
  apply State.ext
  case entry =>
    intro i
    simp only [State.grant, grantedTo, State.entry_mk, State.contention_getElem, State.updCtx_entry, State.entry_updEntry]
    split_ifs with hi
    · simp [hi, hq]
    · rfl
  case ctx => intro i; simp [State.grant, grantedTo]
  all_goals simp [grantedTo, State.grant]

/-- The grant conditions, read one by one (R94). -/
theorem State.grantable_iff (s : State) (e : EntryIx) :
    s.grantable e = true ↔ (s.entry e).serving = true ∧ (s.entry e).holder = none ∧ (s.entry e).queue ≠ [] ∧
      s.covered (s.entry e).granule = false := by
  simp [State.grantable, and_assoc]

/-- After a holder release, what follows is what the obligations call settled. -/
theorem State.settle_eq_settled {s : State} {e : EntryIx} (hserv : (s.entry e).serving = true)
    (hh : (s.entry e).holder = none) : s.settle e = settled e s := by
  have hgrant := s.grantable_iff e
  unfold State.settle settled State.attemptGrant
  cases hq : (s.entry e).queue with
  | nil =>
    simp only [List.head?_nil, State.drainExit, hh, hq, and_true]
  | cons k rest =>
    simp only [List.head?_cons, hgrant, hserv, hh, hq, true_and, ne_eq, reduceCtorEq, not_false_eq_true]
    cases hc : s.covered (s.entry e).granule with
    | true => simp [State.drainExit, hq]
    | false =>
      rw [if_pos rfl, if_neg (by simp), ← State.grant_eq_grantedTo hq]
      have hx : ((s.grant e k).entry e).holder = some k := by
        simp [State.grant]
      simp [State.drainExit, hx]

/-- A holder release of any cause but window disable and CLEAR ALL, in the obligations' words (R99). -/
theorem State.releaseEntry_eq {s : State} {m : Master} {e : EntryIx} (hz : HazardMatches s)
    (hh : (s.entry e).holder = some m) (hserv : (s.entry e).serving = true) :
    s.releaseEntry e = settled e (letGo m e s) := by
  have hx : (letGo m e s).entry e = { s.entry e with
      holder := none, tenure := 0, queue := if s.rereads m e then (s.entry e).queue ++ [m] else (s.entry e).queue } := by
    rw [letGo_entry, if_pos rfl]
  unfold State.releaseEntry
  rw [State.endHolding_eq_letGo hz hh]
  exact State.settle_eq_settled (by rw [hx]; exact hserv) (by rw [hx])

end Sys2Proof.Machine
end

section
/-! SUPPORT. The updates that move a waiter or end a holdership keep the laws: hazard reads that join a queue, the grant, the
DRAIN exit, and the holder release built from them. -/

namespace Sys2Proof.Machine

open Sys2Proof.Safety Sys2Proof.Claim

/-! Records that stay. -/

/-- `u` has all the records of `s` that the laws speak of. -/
structure SameRecords (s u : State) : Prop where
  windows : u.windows = s.windows
  mon : u.mon = s.mon
  contexts : u.contexts = s.contexts
  flight : u.flight = s.flight
  hazard : u.hazard = s.hazard
  released : u.released = s.released
  contention : u.contention = s.contention

theorem SameRecords.loosened {s u : State} (h : SameRecords s u) : Loosened s u where
  windows := h.windows
  mon := h.mon
  contention := h.contention
  hazard := h.hazard
  parked m := by rw [State.ctx_congr h.contexts]
  holdership m := by rw [State.ctx_congr h.contexts]
  reservation m := .inl (by rw [State.ctx_congr h.contexts])
  flight := ⟨id, by simp [h.flight], fun f => Flight.Loosened.refl f (by rw [State.ctx_congr h.contexts])⟩
  released := ⟨id, by simp [h.released], fun _ => .inl rfl⟩

theorem State.notify_sameRecords (s : State) (n : Notice) : SameRecords s (s.notify n) := by
  constructor <;> simp

/-! Hazard reads that join a queue. -/

/-- The entry's holdership is over and every hazard read on its granule waits in its queue: the core of a holder release
(R99) and of the entry into QUEUED (R35). -/
structure Requeued (s : State) (e : EntryIx) (u : State) : Prop where
  windows : u.windows = s.windows
  mon : u.mon = s.mon
  flight : u.flight = s.flight
  released : u.released = s.released
  hazard : u.hazard = s.hazard.filter fun m => !s.parkedOn m (s.entry e).granule
  reservation : ∀ m, (u.ctx m).reservation = (s.ctx m).reservation
  parked : ∀ m, (u.ctx m).parked = (s.ctx m).parked.map fun p =>
    if p.reason = .hazard ∧ p.granule = (s.entry e).granule then { p with reason := .queue e } else p
  holdership : ∀ m, (u.ctx m).holdership = if (s.ctx m).holdership = some e then none else (s.ctx m).holdership
  others : ∀ i, i ≠ e → u.entry i = s.entry i
  granule : (u.entry e).granule = (s.entry e).granule
  holder : (u.entry e).holder = none
  queue : (u.entry e).queue = (s.entry e).queue ++ s.hazard.filter fun m => s.parkedOn m (s.entry e).granule
  serving : (u.entry e).serving = true
  hot : ((u.entry e).state = .queued → (u.entry e).hot = true) ∧ ((u.entry e).state = .drain → (u.entry e).hot = false)

/-- An entry is serving in QUEUED and DRAIN. -/
theorem Entry.serving_iff (x : Entry) : x.serving = true ↔ x.state = .queued ∨ x.state = .drain := by
  simp [Entry.serving]

/-- The master's parked read lies on the granule. -/
theorem State.parkedOn_iff (s : State) (m : Master) (g : Granule) :
    s.parkedOn m g = true ↔ ∃ p, (s.ctx m).parked = some p ∧ p.granule = g := by
  simp [State.parkedOn, Option.any_eq_true]

section Requeued

variable {s u : State} {e : EntryIx} (h : Requeued s e u)
include h

theorem Requeued.window (w : WindowIx) : u.window w = s.window w := by simp only [State.window, h.windows]

theorem Requeued.active (w : WindowIx) : u.active w = s.active w := by simp only [State.active, h.window, h.mon]

theorem Requeued.covered (g : Granule) : u.covered g = s.covered g := State.covered_congr h.windows h.flight g

theorem Requeued.granules (i : EntryIx) : (u.entry i).granule = (s.entry i).granule := by
  by_cases hi : i = e
  · subst hi; exact h.granule
  · rw [h.others i hi]

/-- A parked read was parked before, and at most its reason changed. -/
theorem Requeued.parked_some {m : Master} {p : Parked} (hp : (u.ctx m).parked = some p) :
    ∃ q, (s.ctx m).parked = some q ∧ p.granule = q.granule ∧
      (q.reason = .hazard ∧ q.granule = (s.entry e).granule ∧ p.reason = .queue e ∨
        ¬ (q.reason = .hazard ∧ q.granule = (s.entry e).granule) ∧ p = q) := by
  rw [h.parked, Option.map_eq_some_iff] at hp
  obtain ⟨q, hq, rfl⟩ := hp
  refine ⟨q, hq, ?_⟩
  split_ifs <;> simp_all

/-- Where nothing else names the holder or arms on the granule, the laws stay. -/
theorem Requeued.agree (hs : Agree s) (hused : (s.entry e).state ≠ .free)
    (hres : ∀ m, (s.ctx m).reservation ≠ some (s.entry e).granule)
    (hnamed : ∀ f ∈ s.flight, f.holderEntry ≠ some e)
    (harms : ∀ r ∈ s.released, r.arms = true → r.granule ≠ (s.entry e).granule) : Agree u := by
  have hused' : (u.entry e).state ≠ .free := by
    have := (Entry.serving_iff _).mp h.serving
    grind
  have hstate : ∀ i, (u.entry i).state ≠ .free → (s.entry i).state ≠ .free := fun i hi => by
    by_cases hie : i = e
    · exact hie ▸ hused
    · rwa [← h.others i hie]
  have hmem : ∀ m, (m ∈ s.hazard ∧ s.parkedOn m (s.entry e).granule = true) ↔
      ∃ p, (s.ctx m).parked = some p ∧ p.reason = .hazard ∧ p.granule = (s.entry e).granule := fun m => by
    rw [hs.hazarded, State.parkedOn_iff]; grind
  have hgr := h.granules
  constructor
  case table => have := hs.table; simpa only [TableLegal, h.window] using this
  case reserved => simpa only [h.reservation, h.active] using hs.reserved
  case parkedActive =>
    intro m p hp
    obtain ⟨q, hq, hg, -⟩ := h.parked_some hp
    rw [h.active, hg]
    exact hs.parkedActive m q hq
  case releasedActive => simpa only [h.released, h.active] using hs.releasedActive
  case queueNodup =>
    intro i
    by_cases hi : i = e
    · subst hi
      rw [h.queue]
      refine List.Nodup.append (hs.queueNodup i) (hs.hazardNodup.filter _) ?_
      intro m hq hf
      have := (hs.queued i m).mp hq
      have := (hs.hazarded m).mp (List.mem_of_mem_filter hf)
      grind
    · rw [h.others i hi]; exact hs.queueNodup i
  case queued =>
    intro i m
    have hq := hs.queued i m
    have hm := hmem m
    rw [h.parked]
    by_cases hi : i = e
    · subst hi
      rw [h.queue, List.mem_append, List.mem_filter, hm, hq]
      cases (s.ctx m).parked <;> grind
    · rw [h.others i hi, hq]
      cases (s.ctx m).parked <;> grind
  case queuedOn =>
    intro i m p hp hr
    obtain ⟨q, hq, hg, hor⟩ := h.parked_some hp
    have hon := hs.queuedOn i m q hq
    rw [hgr]
    grind
  case hazardNodup => rw [h.hazard]; exact hs.hazardNodup.filter _
  case hazarded =>
    intro m
    have hm := hmem m
    have hh := hs.hazarded m
    rw [h.hazard, h.parked, List.mem_filter]
    cases hp : (s.ctx m).parked <;> grind
  case holders =>
    intro i m
    have := hs.holders i m
    rw [h.holdership]
    have := h.holder
    by_cases hi : i = e
    · subst hi; grind
    · rw [h.others i hi]; grind
  case waiters =>
    intro m i p hh hp
    rw [h.holdership] at hh
    obtain ⟨q, hq, hg, hor⟩ := h.parked_some hp
    have hhold : (s.ctx m).holdership = some i ∧ i ≠ e := by grind
    have hown := hs.waiters m i q hhold.1 hq
    have hholder := (hs.holders i m).mpr hhold.1
    have hfree : (s.entry i).state ≠ .free := fun hf => by
      rw [(hs.law10 i).1 hf] at hholder
      cases hholder
    have honly := hs.tracked i e hfree hused
    rw [hgr]
    grind
  case unreserved =>
    intro m p hp
    obtain ⟨q, hq, -⟩ := h.parked_some hp
    rw [h.reservation]
    exact hs.unreserved m q hq
  case unarmed =>
    intro m p hp
    obtain ⟨q, hq, -⟩ := h.parked_some hp
    rw [h.released]
    exact hs.unarmed m q hq
  case law4 =>
    intro i m hserv hg
    rw [h.reservation, hgr] at hg
    by_cases hi : i = e
    · subst hi; exact absurd hg (hres m)
    · rw [h.others i hi] at *; exact hs.law4 i m hserv hg
  case arming =>
    intro i hserv r hr ha hg
    rw [hgr] at hg
    rw [h.released] at hr
    by_cases hi : i = e
    · subst hi; exact absurd hg (harms r hr ha)
    · rw [h.others i hi] at *; exact hs.arming i hserv r hr ha hg
  case rereads =>
    intro i m p hserv hp hr hg
    rw [hgr] at hg
    obtain ⟨q, hq, hgq, hor⟩ := h.parked_some hp
    by_cases hi : i = e
    · subst hi; grind
    · rw [h.others i hi] at *
      have := hs.rereads i m q hserv hq
      grind
  case flightNamed =>
    intro f hf i hi
    rw [h.flight] at hf
    rw [h.others i (by rintro rfl; exact hnamed f hf hi)]
    exact hs.flightNamed f hf i hi
  case releasedNamed =>
    intro r hr i hi
    rw [h.released] at hr
    have hn := hs.releasedNamed r hr i hi
    rw [h.others i (by rintro rfl; exact harms r hr (Released.arms_of_holderEntry hi) hn.2)]
    exact hn
  case marks => simpa only [h.flight, h.reservation] using hs.marks
  case oneMark => have := hs.oneMark; simpa only [OneMarkEach, h.flight] using this
  case tracked =>
    intro i j hi hj
    rw [hgr, hgr]
    exact hs.tracked i j (hstate i hi) (hstate j hj)
  case trackedActive =>
    intro i hi
    rw [hgr, h.active]
    exact hs.trackedActive i (hstate i hi)
  case trackedAllowed =>
    intro i hi
    rw [hgr, h.window]
    exact hs.trackedAllowed i (hstate i hi)
  case law6 => simpa only [h.released, h.covered] using hs.law6
  case law10 =>
    intro i
    by_cases hi : i = e
    · subst hi
      have := (Entry.serving_iff _).mp h.serving
      have := h.hot
      grind
    · rw [h.others i hi]; exact hs.law10 i

end Requeued

end Sys2Proof.Machine
end

section
/-! SUPPORT. What an update keeps of the laws, the tenures, the DRAIN exit, the waiters and the tags, in one relation that
composes; the holder release, the grant and the DRAIN exit keep it all. -/

namespace Sys2Proof.Machine

open Sys2Proof.Safety Sys2Proof.Claim

/-! Tags. -/

/-- How many records hold a tag of a master: entries of the flight list, released reads, and its parked read. -/
def State.tagCount (s : State) (x : Master × Tag) : Nat :=
  s.flight.countP (fun f => (f.master, f.tag) == x) +
    s.released.countP (fun r => (r.master, r.tag) == x) +
    ((s.ctx x.1).parked.any fun p => decide (p.tag = x.2)).toNat

/-- A tag of a master stands once at most among the tags of the reads of different masters. -/
theorem count_tags (read : Master → Option Parked) (x : Master × Tag) {l : List Master} (hl : l.Nodup) :
    (l.filterMap fun m => (read m).map fun p => (m, p.tag)).count x =
      if x.1 ∈ l ∧ (read x.1).any (fun p => decide (p.tag = x.2)) = true then 1 else 0 := by
  obtain ⟨m, t⟩ := x
  induction l with
  | nil => simp
  | cons k l ih =>
    obtain ⟨hk, hl⟩ := List.nodup_cons.mp hl
    cases hp : read k with
    | none =>
      rw [List.filterMap_cons_none (by simp [hp]), ih hl]
      by_cases hkm : m = k
      · subst hkm; simp [hp]
      · simp [hkm]
    | some p =>
      rw [List.filterMap_cons_some (b := (k, p.tag)) (by simp [hp]), List.count_cons, ih hl]
      by_cases hkm : m = k
      · subst hkm; simp [hp, hk]
      · simp [hkm, Ne.symm hkm]

/-- The tags that a state holds, counted by record. -/
theorem count_heldTags (s : State) (x : Master × Tag) : (heldTags s).count x = s.tagCount x := by
  have hparked := count_tags (fun m => (s.ctx m).parked) x (List.nodup_finRange 16)
  simp only [List.mem_finRange, true_and] at hparked
  rw [heldTags, List.count_append, List.count_append, masters, hparked, State.tagCount]
  simp only [List.count, List.countP_map]
  congr 1
  cases (s.ctx x.1).parked.any fun p => decide (p.tag = x.2) <;> rfl

theorem tagsDistinct_iff (s : State) : TagsDistinct s ↔ ∀ x, s.tagCount x ≤ 1 := by
  simp only [TagsDistinct, List.nodup_iff_count_le_one, count_heldTags]

/-! The relation. -/

/-- The tenure remaining stands with the holder (R93). -/
def Entry.TenureOk (x : Entry) : Prop :=
  (x.holder = none → x.tenure = 0) ∧ (x.holder ≠ none → 1 ≤ x.tenure ∧ x.tenure ≤ 255)

/-- An entry in DRAIN has somebody to serve (R102). -/
def Entry.DrainOk (x : Entry) : Prop := x.state = .drain → x.holder ≠ none ∨ x.queue ≠ []

/-- The waiters of an entry without holder wait for a write in flight (R94). -/
def State.WaitOk (s : State) (e : EntryIx) : Prop :=
  (s.entry e).queue ≠ [] → (s.entry e).holder = none → s.covered (s.entry e).granule = true

/-- The hazard reads wait for writes in flight (R63). -/
def State.HazardsOk (s : State) : Prop := ∀ m ∈ s.hazard, ∀ p, (s.ctx m).parked = some p → s.covered p.granule = true

theorem waitersCovered_iff (s : State) : WaitersCovered s ↔ (∀ e, s.WaitOk e) ∧ s.HazardsOk := by
  simp [WaitersCovered, State.WaitOk, State.HazardsOk, Option.all_eq_true]

/-- From `s` to `u` the laws hold, the tenures stay right, and but for the entries excepted no drain is left open and no
waiter is forgotten. -/
structure KeptLaws (except : EntryIx → Prop) (s u : State) : Prop where
  agree : Agree u
  tenure : ∀ i, (s.entry i).TenureOk → (u.entry i).TenureOk
  drain : ∀ i, ¬ except i → (s.entry i).DrainOk → (u.entry i).DrainOk
  waits : ∀ i, ¬ except i → s.WaitOk i → u.WaitOk i
  hazards : s.HazardsOk → u.HazardsOk

/-- Besides, no tag is added. -/
structure Kept (except : EntryIx → Prop) (s u : State) : Prop extends KeptLaws except s u where
  tags : ∀ x, u.tagCount x ≤ s.tagCount x

/-- Nothing is excepted. -/
def nowhere : EntryIx → Prop := fun _ => False

theorem Kept.refl {s : State} (hs : Agree s) (except : EntryIx → Prop) : Kept except s s :=
  ⟨⟨hs, fun _ h => h, fun _ _ h => h, fun _ _ h => h, fun h => h⟩, fun _ => le_rfl⟩

theorem KeptLaws.trans {except : EntryIx → Prop} {s t u : State} (h : KeptLaws except s t) (k : KeptLaws except t u) :
    KeptLaws except s u :=
  ⟨k.agree, fun i hi => k.tenure i (h.tenure i hi), fun i hx hi => k.drain i hx (h.drain i hx hi),
    fun i hx hi => k.waits i hx (h.waits i hx hi), fun hi => k.hazards (h.hazards hi)⟩

theorem Kept.trans {except : EntryIx → Prop} {s t u : State} (h : Kept except s t) (k : Kept except t u) :
    Kept except s u :=
  ⟨h.toKeptLaws.trans k.toKeptLaws, fun x => (k.tags x).trans (h.tags x)⟩

theorem KeptLaws.mono {except more : EntryIx → Prop} {s u : State} (h : KeptLaws except s u)
    (hm : ∀ i, except i → more i) : KeptLaws more s u :=
  ⟨h.agree, h.tenure, fun i hx => h.drain i fun hi => hx (hm i hi), fun i hx => h.waits i fun hi => hx (hm i hi), h.hazards⟩

/-- Coherence is the laws, the tenures and the drains of every entry. -/
theorem coherent_iff_entries (s : State) :
    Coherent s ↔ Agree s ∧ (∀ i, (s.entry i).TenureOk) ∧ ∀ i, (s.entry i).DrainOk := coherent_iff s

theorem KeptLaws.coherent {s u : State} (h : KeptLaws nowhere s u) (hs : Coherent s) : Coherent u := by
  obtain ⟨-, ht, hd⟩ := (coherent_iff_entries s).mp hs
  exact (coherent_iff_entries u).mpr ⟨h.agree, fun i => h.tenure i (ht i), fun i => h.drain i id (hd i)⟩

theorem KeptLaws.waitersCovered {s u : State} (h : KeptLaws nowhere s u) (hs : WaitersCovered s) : WaitersCovered u := by
  obtain ⟨hw, hh⟩ := (waitersCovered_iff s).mp hs
  exact (waitersCovered_iff u).mpr ⟨fun i => h.waits i id (hw i), h.hazards hh⟩

theorem Kept.tagsDistinct {except : EntryIx → Prop} {s u : State} (h : Kept except s u) (hs : TagsDistinct s) :
    TagsDistinct u :=
  (tagsDistinct_iff u).mpr fun x => (h.tags x).trans ((tagsDistinct_iff s).mp hs x)

/-! Loosening. -/

/-- Loosening moves no tag. -/
theorem Loosened.tagCount {s u : State} (h : Loosened s u) (x : Master × Tag) : u.tagCount x = s.tagCount x := by
  obtain ⟨φ, hφ, hf⟩ := h.flight
  obtain ⟨ψ, hψ, hr⟩ := h.released
  have hread : ∀ r, (ψ r).master = r.master ∧ (ψ r).tag = r.tag := fun r => by
    obtain hsame | ⟨-, hdis⟩ := hr r
    · simp [hsame]
    · simp [hdis]
  simp only [State.tagCount, hφ, hψ, h.parked, List.countP_map, Function.comp_def, (hf _).master, (hf _).tag, hread]

/-- Loosening keeps everything. -/
theorem Loosened.kept {s u : State} (h : Loosened s u) (hs : Agree s) : Kept nowhere s u where
  agree := h.agree hs
  tenure i := by rw [h.entry]; exact id
  drain i _ := by rw [h.entry]; exact id
  waits i _ := by simp only [State.WaitOk, h.entry, h.covered]; exact id
  hazards := by simp only [State.HazardsOk, h.hazard, h.parked, h.covered]; exact id
  tags x := (h.tagCount x).le

theorem SameRecords.kept {s u : State} (h : SameRecords s u) (hs : Agree s) : Kept nowhere s u := h.loosened.kept hs

/-! The end of a holdership. -/

theorem Agree.hazardMatches {s : State} (hs : Agree s) : HazardMatches s :=
  ⟨hs.hazardNodup, fun m => by rw [hs.hazarded]; simp [Option.any_eq_true]⟩

/-- Only an entry in QUEUED or DRAIN has a holder or waiters. -/
theorem Agree.serving_of_occupied {s : State} (hs : Agree s) {e : EntryIx}
    (h : (s.entry e).holder ≠ none ∨ (s.entry e).queue ≠ []) : (s.entry e).serving = true := by
  obtain ⟨hfree, hwatch, -, -⟩ := hs.law10 e
  rw [Entry.serving_iff]
  cases hstate : (s.entry e).state with
  | free =>
    have := hfree hstate
    rw [this] at h
    simp [Entry.free] at h
  | watch =>
    obtain ⟨h1, h2, -⟩ := hwatch hstate
    simp [h1, h2] at h
  | queued => simp
  | drain => simp

/-- The records in which a holder release ends the holdership: its master's own reservation and names are gone. -/
def State.loosedFrom (s : State) (m : Master) (e : EntryIx) : State := (s.clearOwn m (s.entry e).granule).forgetHolder m e

theorem State.loosened_loosedFrom (s : State) (m : Master) (e : EntryIx) : Loosened s (s.loosedFrom m e) :=
  (s.loosened_clearOwn m _).trans (State.loosened_forgetHolder _ m e)

/-- A hazard read on the granule of an entry with a holder is its holder's. -/
theorem Agree.parkedOn_iff_rereads {s : State} (hs : Agree s) {m k : Master} {e : EntryIx}
    (hh : (s.entry e).holder = some m) (hk : k ∈ s.hazard) :
    s.parkedOn k (s.entry e).granule = true ↔ k = m ∧ s.rereads m e = true := by
  obtain ⟨p, hp, hr⟩ := (hs.hazarded k).mp hk
  have hserv := hs.serving_of_occupied (e := e) (.inl (by simp [hh]))
  have hown := hs.rereads e k p hserv hp hr
  rw [State.parkedOn_iff, State.rereads]
  constructor
  · rintro ⟨q, hq, hg⟩
    obtain rfl : p = q := by simpa [hp] using hq
    obtain rfl : m = k := by simpa [hh] using hown hg
    simp [hp, hr, hg]
  · rintro ⟨rfl, hany⟩
    exact ⟨p, hp, by simpa [hp, hr] using hany⟩

/-- Letting go is the move of the hazard reads, once the names are gone. -/
theorem requeued_letGo {s : State} (hs : Agree s) {m : Master} {e : EntryIx} (hh : (s.entry e).holder = some m) :
    Requeued (s.loosedFrom m e) e (letGo m e s) := by
  have hl := s.loosened_loosedFrom m e
  have hserv := hs.serving_of_occupied (e := e) (.inl (by simp [hh]))
  have hpark : ∀ k, (s.loosedFrom m e).parkedOn k (s.entry e).granule = s.parkedOn k (s.entry e).granule := fun k => by
    simp only [State.parkedOn, hl.parked]
  have hback := fun k (hk : k ∈ s.hazard) => hs.parkedOn_iff_rereads hh hk
  have hmem : s.rereads m e = true → m ∈ s.hazard := fun h => by
    obtain ⟨p, hp, hr⟩ := Option.any_eq_true _ _ |>.mp h
    rw [Bool.and_eq_true, decide_eq_true_eq] at hr
    exact (hs.hazarded m).mpr ⟨p, hp, hr.1⟩
  have hframe := letGo_frame s m e
  have hentry := letGo_entry s m e
  constructor
  case windows => rw [hframe, hl.windows]
  case mon => rw [hframe, hl.mon]
  case flight => rw [hframe]; rfl
  case released => rw [hframe]; rfl
  case hazard =>
    rw [hframe, hl.entry, hl.hazard]
    simp only [hpark]
    split_ifs with hre <;> [refine List.filter_congr fun k hk => ?_; refine (List.filter_eq_self.mpr fun k hk => ?_).symm] <;>
      have := hback k hk <;> grind
  case reservation =>
    intro k
    rw [letGo_ctx]
    simp only [State.loosedFrom, State.forgetHolder_ctx, State.clearOwn_ctx]
    grind
  case parked =>
    intro k
    rw [letGo_ctx, hl.parked, hl.entry]
    by_cases hk : k = m
    · subst hk
      cases hp : (s.ctx k).parked <;> simp [State.rereads, hp]
    · rw [if_neg hk]
      cases hp : (s.ctx k).parked with
      | none => rfl
      | some p =>
        have hn : ¬ (p.reason = .hazard ∧ p.granule = (s.entry e).granule) := by
          rintro ⟨hr, hg⟩
          have := hs.rereads e k p hserv hp hr hg
          grind
        simp [hn]
  case holdership =>
    intro k
    have := hs.holders e k
    rw [letGo_ctx, hl.holdership]
    have := hs.holders e m
    grind
  case others => intro i hi; rw [hentry, if_neg hi, hl.entry]
  case granule => rw [hentry, if_pos rfl, hl.entry]
  case holder => rw [hentry, if_pos rfl]
  case queue =>
    rw [hentry, if_pos rfl, hl.entry, hl.hazard]
    simp only [hpark]
    have hq : (s.hazard.filter fun k => s.parkedOn k (s.entry e).granule) = if s.rereads m e then [m] else [] := by
      rw [List.filter_congr (q := fun k => decide (k = m) && s.rereads m e) fun k hk => by
        have := hback k hk; grind, filter_eq_and hs.hazardNodup]
      split_ifs <;> grind
    rw [hq]
    split_ifs <;> simp
  case serving => rw [hentry, if_pos rfl]; exact hserv
  case hot => rw [hentry, if_pos rfl]; exact (hs.law10 e).2.2

/-- Letting go keeps the laws. -/
theorem Agree.letGo {s : State} (hs : Agree s) {m : Master} {e : EntryIx} (hh : (s.entry e).holder = some m) :
    Agree (letGo m e s) := by
  have hl := s.loosened_loosedFrom m e
  have hserv := hs.serving_of_occupied (e := e) (.inl (by simp [hh]))
  refine (requeued_letGo hs hh).agree (hl.agree hs) ?_ ?_ ?_ ?_
  · rw [hl.entry]; exact Entry.used_of_serving hserv
  · intro k hk
    rw [hl.entry] at hk
    have hown := hs.law4 e k hserv (hl.reservation_some hk)
    obtain rfl : m = k := by simpa [hh] using hown
    simp only [State.loosedFrom, State.forgetHolder_ctx, State.clearOwn_ctx] at hk
    grind
  · intro f hf he
    obtain ⟨f', hf', rfl⟩ := List.mem_map.mp hf
    rw [Flight.dropHolder_holderEntry] at he
    obtain ⟨f, hf, hlf⟩ := (s.loosened_clearOwn m (s.entry e).granule).mem_flight hf'
    have hn := hs.flightNamed f hf e
    have := hlf.holderEntry
    have := hlf.master
    grind
  · intro r hr ha hg
    rw [hl.entry] at hg
    obtain ⟨r', hr', rfl⟩ := List.mem_map.mp hr
    simp only [Released.disarm_arms, Bool.and_eq_true, Bool.not_eq_true', Bool.and_eq_false_iff,
      decide_eq_false_iff_not] at ha
    rw [Released.disarm_granule] at hg
    obtain ⟨q, hq, -, -, -, hsame⟩ := (s.loosened_clearOwn m (s.entry e).granule).mem_released hr'
    obtain rfl := hsame ha.1
    obtain ⟨hm, he⟩ := hs.arming e hserv r' hq ha.1 hg
    have : r'.mode = .arm (some e) := by
      unfold Released.holderEntry at he
      cases hmode : r'.mode <;> simp_all
    grind

/-- Letting go keeps the tags. -/
theorem Requeued.tagCount {s u : State} {e : EntryIx} (h : Requeued s e u) (x : Master × Tag) :
    u.tagCount x = s.tagCount x := by
  have hp : (u.ctx x.1).parked.any (fun p => decide (p.tag = x.2)) =
      (s.ctx x.1).parked.any fun p => decide (p.tag = x.2) := by
    rw [h.parked]
    cases (s.ctx x.1).parked with
    | none => rfl
    | some p => simp only [Option.map_some, Option.any_some]; split_ifs <;> rfl
  rw [State.tagCount, State.tagCount, h.flight, h.released, hp]

/-- A move of hazard reads to the queue keeps the other hazard reads waiting. -/
theorem Requeued.hazardsOk {s u : State} {e : EntryIx} (h : Requeued s e u) (hs : s.HazardsOk) : u.HazardsOk := by
  intro m hm p hp
  rw [h.hazard] at hm
  obtain ⟨q, hq, hg, -⟩ := h.parked_some hp
  rw [h.covered, hg]
  exact hs m (List.mem_of_mem_filter hm) q hq

/-- The end of a holdership keeps all but the entry's own drain and waiters. -/
theorem State.kept_endHolding {s : State} (hs : Agree s) (e : EntryIx) : Kept (· = e) s (s.endHolding e) := by
  cases hh : (s.entry e).holder with
  | none => rw [State.endHolding_of_none hh]; exact Kept.refl hs _
  | some m =>
    have hl := s.loosened_loosedFrom m e
    have hq := requeued_letGo hs hh
    have hentry := letGo_entry s m e
    rw [State.endHolding_eq_letGo hs.hazardMatches hh]
    exact {
      agree := hs.letGo hh
      tenure := fun i hi => by
        rw [hentry]
        by_cases hie : i = e
        · rw [if_pos hie]; exact ⟨fun _ => rfl, fun h => absurd rfl h⟩
        · rw [if_neg hie]; exact hi
      drain := fun i hi h => by rw [hentry, if_neg hi]; exact h
      waits := fun i hi h => by
        unfold State.WaitOk
        rw [hq.covered, hl.covered, hentry, if_neg hi]
        exact h
      hazards := fun h => hq.hazardsOk ((hl.kept hs).hazards h)
      tags := fun x => (hq.tagCount x).le.trans (hl.tagCount x).le }

end Sys2Proof.Machine
end

section
/-! SUPPORT. The grant, the DRAIN exit and the whole holder release keep the laws, the tenures, the waiters and the tags. -/

namespace Sys2Proof.Machine

open Sys2Proof.Safety Sys2Proof.Claim

/-! The grant. -/

@[simp] theorem State.grant_ctx (s : State) (e : EntryIx) (k i : Master) :
    (s.grant e k).ctx i = if i = k then { s.ctx i with parked := none, holdership := some e } else s.ctx i := by
  simp [State.grant]

@[simp] theorem State.grant_entry (s : State) (e i : EntryIx) (k : Master) :
    (s.grant e k).entry i = if i = e then
        { s.entry i with
          queue := (s.entry i).queue.tail, holder := some k
          tenure := (s.window (s.entry i).granule.window).tenure.toNat }
      else s.entry i := by
  simp [State.grant]

theorem State.grant_released {s : State} {e : EntryIx} {k : Master} {p : Parked} (hp : (s.ctx k).parked = some p) :
    (s.grant e k).released = s.released ++ [p.release k (.arm (some e))] := by
  simp [State.grant, hp]

section Grant

variable {s : State} (hs : Agree s) {e : EntryIx} {k : Master} {rest : List Master}
  (hq : (s.entry e).queue = k :: rest) (hserv : (s.entry e).serving = true) (hnone : (s.entry e).holder = none)
  (hopen : s.covered (s.entry e).granule = false)

theorem State.grant_active (w : WindowIx) : (s.grant e k).active w = s.active w := by simp [State.active]

theorem State.grant_covered (g : Granule) : (s.grant e k).covered g = s.covered g :=
  State.covered_congr (by simp) (by simp) g

include hs hq

/-- The head of a queue has a parked read that waits there, on the entry's granule. -/
theorem Agree.parked_of_head :
    ∃ p, (s.ctx k).parked = some p ∧ p.reason = .queue e ∧ p.granule = (s.entry e).granule := by
  obtain ⟨p, hp, hr⟩ := (hs.queued e k).mp (by simp [hq])
  exact ⟨p, hp, hr, hs.queuedOn e k p hp hr⟩

/-- A grant moves one tag from the contexts to the arbiter. -/
theorem Agree.grant_tagCount (x : Master × Tag) : (s.grant e k).tagCount x = s.tagCount x := by
  obtain ⟨p, hp, -⟩ := hs.parked_of_head hq
  obtain ⟨m, t⟩ := x
  simp only [State.tagCount, State.grant_flight, State.grant_released hp, List.countP_append, State.grant_ctx]
  by_cases hm : m = k
  · subst hm; simp [hp, Parked.release, List.countP_cons, Nat.add_assoc, Bool.toNat, Bool.cond_decide]
  · simp [hm, Parked.release, Ne.symm hm]

include hserv hnone hopen

/-- A grant keeps the laws. -/
theorem Agree.grant : Agree (s.grant e k) := by
  obtain ⟨p, hp, hr, hg⟩ := hs.parked_of_head hq
  have hrel := State.grant_released (e := e) hp
  have hidle : ∀ i, (s.ctx k).holdership ≠ some i := fun i hi => by
    have := (hs.waiters k i p hi hp).1
    simp [hr] at this
  have hidle' : ∀ i, (s.entry i).holder ≠ some k := fun i hi => hidle i ((hs.holders i k).mp hi)
  have hactive : ∀ w, (s.grant e k).active w = s.active w := fun w => State.grant_active w
  have hcov : ∀ g, (s.grant e k).covered g = s.covered g := fun g => State.grant_covered g
  have hnew : (p.release k (.arm (some e))).granule = (s.entry e).granule := hg
  have hnodup := hs.queueNodup e
  rw [hq, List.nodup_cons] at hnodup
  constructor
  case table => have := hs.table; simpa only [TableLegal, State.grant_window] using this
  case reserved => intro m g; rw [State.grant_ctx, hactive]; have := hs.reserved m g; grind
  case parkedActive => intro m q; rw [State.grant_ctx, hactive]; have := hs.parkedActive m q; grind
  case releasedActive =>
    intro r hm hmode
    rw [hrel, List.mem_append, List.mem_singleton] at hm
    rw [hactive]
    obtain hm | rfl := hm
    · exact hs.releasedActive r hm hmode
    · exact hs.parkedActive k p hp
  case queueNodup => intro i; rw [State.grant_entry]; have := hs.queueNodup i; grind
  case queued =>
    intro i m
    have hqi := hs.queued i m
    have hek := hs.queued i k
    rw [State.grant_ctx, State.grant_entry]
    by_cases hi : i = e
    · subst hi; rw [if_pos rfl, hq, List.tail_cons]; by_cases hm : m = k <;> grind
    · rw [if_neg hi]; by_cases hm : m = k <;> grind
  case queuedOn =>
    intro i m q
    have := hs.queuedOn i m q
    rw [State.grant_ctx, State.grant_entry]
    grind
  case hazardNodup => rw [State.grant_hazard]; exact hs.hazardNodup
  case hazarded =>
    intro m
    have hm := hs.hazarded m
    rw [State.grant_hazard, State.grant_ctx]
    by_cases hk : m = k <;> grind
  case holders =>
    intro i m
    have := hs.holders i m
    have := hidle i
    have := hidle' i
    rw [State.grant_ctx, State.grant_entry]
    by_cases hi : i = e <;> by_cases hm : m = k <;> grind
  case waiters =>
    intro m i q
    have := hs.waiters m i q
    rw [State.grant_ctx, State.grant_entry]
    grind
  case unreserved => intro m q; have := hs.unreserved m q; rw [State.grant_ctx]; grind
  case unarmed =>
    intro m q hq' r hm hmr
    rw [State.grant_ctx] at hq'
    rw [hrel, List.mem_append, List.mem_singleton] at hm
    have hmk : m ≠ k := by rintro rfl; simp at hq'
    rw [if_neg hmk] at hq'
    obtain hm | rfl := hm
    · exact hs.unarmed m q hq' r hm hmr
    · exact absurd hmr.symm hmk
  case law4 =>
    intro i m hi hg'
    have h4 := hs.law4 i m
    have := hs.unreserved k p hp
    rw [State.grant_ctx] at hg'
    rw [State.grant_entry] at *
    by_cases hie : i = e
    · subst hie; grind [Entry.serving]
    · grind
  case arming =>
    intro i hi r hm ha hg'
    rw [State.grant_entry] at *
    rw [hrel, List.mem_append, List.mem_singleton] at hm
    obtain hm | rfl := hm
    · have h4 := hs.arming i
      by_cases hie : i = e
      · subst hie; grind [Entry.serving]
      · grind
    · have htrack := hs.tracked e i (Entry.used_of_serving hserv)
      have : i = e := by
        by_contra hie
        rw [if_neg hie] at hi hg'
        exact hie (htrack (Entry.used_of_serving hi) (hnew.symm.trans hg')).symm
      subst this
      simp [Parked.release, Released.holderEntry]
  case rereads =>
    intro i m q hi hq' hrq hgq
    rw [State.grant_ctx] at hq'
    rw [State.grant_entry] at *
    have := hs.rereads i m q
    by_cases hie : i = e
    · subst hie; grind [Entry.serving]
    · grind
  case flightNamed =>
    intro f hf i hi
    rw [State.grant_flight] at hf
    have := hs.flightNamed f hf i hi
    rw [State.grant_entry]
    grind
  case releasedNamed =>
    intro r hm i hi
    rw [hrel, List.mem_append, List.mem_singleton] at hm
    rw [State.grant_entry]
    obtain hm | rfl := hm
    · have := hs.releasedNamed r hm i hi
      grind
    · simp only [Parked.release, Released.holderEntry, Option.some.injEq] at hi
      subst hi
      simpa [Parked.release] using hg
  case marks =>
    intro f hf ha
    rw [State.grant_flight] at hf
    have := hs.marks f hf ha
    rw [State.grant_ctx]
    grind
  case oneMark => have := hs.oneMark; simpa only [OneMarkEach, State.grant_flight] using this
  case tracked =>
    intro i j
    have := hs.tracked i j
    rw [State.grant_entry, State.grant_entry]
    split_ifs <;> exact this
  case trackedActive =>
    intro i
    have := hs.trackedActive i
    rw [State.grant_entry, hactive]
    split_ifs <;> exact this
  case trackedAllowed =>
    intro i
    have := hs.trackedAllowed i
    rw [State.grant_entry, State.grant_window]
    split_ifs <;> exact this
  case law6 =>
    intro r hm hmode
    rw [hrel, List.mem_append, List.mem_singleton] at hm
    rw [hcov]
    obtain hm | rfl := hm
    · exact hs.law6 r hm hmode
    · rw [hnew]; exact hopen
  case law10 =>
    intro i
    have := hs.law10 i
    rw [State.grant_entry]
    by_cases hi : i = e
    · subst hi
      have := (Entry.serving_iff _).mp hserv
      rw [if_pos rfl]
      grind
    · rw [if_neg hi]; exact this

/-- A grant keeps everything. -/
theorem State.kept_grant : Kept nowhere s (s.grant e k) where
  agree := hs.grant hq hserv hnone hopen
  tenure i hi := by
    rw [State.grant_entry]
    by_cases hie : i = e
    · rw [if_pos hie]
      obtain ⟨-, -, htenure, -⟩ := hs.table.1 (s.entry i).granule.window
      refine ⟨fun h => by simp at h, fun _ => ⟨?_, ?_⟩⟩
      · exact Nat.one_le_iff_ne_zero.mpr fun h0 => htenure (BitVec.eq_of_toNat_eq (by simpa using h0))
      · have := (s.window (s.entry i).granule.window).tenure.isLt
        change (s.window (s.entry i).granule.window).tenure.toNat ≤ 255
        omega
    · rw [if_neg hie]; exact hi
  drain i _ hi := by
    rw [State.grant_entry]
    by_cases hie : i = e
    · rw [if_pos hie]; exact fun _ => .inl (by simp)
    · rw [if_neg hie]; exact hi
  waits i _ hi := by
    unfold State.WaitOk
    rw [State.grant_entry, State.grant_covered]
    by_cases hie : i = e
    · rw [if_pos hie]; intro _ h; simp at h
    · rw [if_neg hie]; exact hi
  hazards h := by
    intro m hm p hp
    rw [State.grant_hazard] at hm
    rw [State.grant_ctx] at hp
    rw [State.grant_covered]
    have := h m hm p
    grind
  tags x := (hs.grant_tagCount hq x).le

end Grant

/-- The attempt at a grant keeps everything. -/
theorem State.kept_attemptGrant {s : State} (hs : Agree s) (e : EntryIx) : Kept nowhere s (s.attemptGrant e) := by
  obtain h | ⟨k, hk, hserv, hnone, hopen, h⟩ := s.attemptGrant_cases e
  · rw [h]; exact Kept.refl hs _
  · obtain ⟨rest, hq⟩ := List.head?_eq_some_iff.mp hk
    rw [h]; exact State.kept_grant hs hq hserv hnone hopen

/-- After the attempt at a grant the entry's waiters are covered, or have a holder before them. -/
theorem State.waitOk_attemptGrant {s : State} (hs : Agree s) (e : EntryIx) : (s.attemptGrant e).WaitOk e := by
  unfold State.WaitOk State.attemptGrant
  cases hq : (s.entry e).queue with
  | nil => simp [hq]
  | cons k rest =>
    have hserv := hs.serving_of_occupied (e := e) (.inr (by simp [hq]))
    simp only [List.head?_cons]
    split_ifs with hg
    · intro _ h; simp at h
    · intro _ hnone
      rw [State.grantable_iff] at hg
      simp_all

/-! The DRAIN exit. -/

/-! Updates of the contention table alone. -/

/-- Only the contention table changes: holders and queues stay, no entry starts to serve, and those that serve keep their
granules. -/
structure Retabled (s u : State) : Prop where
  windows : u.windows = s.windows
  mon : u.mon = s.mon
  contexts : u.contexts = s.contexts
  flight : u.flight = s.flight
  hazard : u.hazard = s.hazard
  released : u.released = s.released
  holder : ∀ i, (u.entry i).holder = (s.entry i).holder
  queue : ∀ i, (u.entry i).queue = (s.entry i).queue
  serving : ∀ i, (u.entry i).serving = true → (s.entry i).serving = true
  granule : ∀ i, (s.entry i).serving = true → (u.entry i).granule = (s.entry i).granule

section Retabled

variable {s u : State} (h : Retabled s u)
include h

theorem Retabled.ctx (m : Master) : u.ctx m = s.ctx m := State.ctx_congr h.contexts m

theorem Retabled.window (w : WindowIx) : u.window w = s.window w := by simp only [State.window, h.windows]

theorem Retabled.active (w : WindowIx) : u.active w = s.active w := by simp only [State.active, h.window, h.mon]

theorem Retabled.covered (g : Granule) : u.covered g = s.covered g := State.covered_congr h.windows h.flight g

/-- The laws stay where Law 5 and Law 10 hold of the new table. -/
theorem Retabled.agree (hs : Agree s) (law5 : EntriesTrack u) (law10 : StatesMatch u) : Agree u := by
  have hheld : ∀ i m, (s.entry i).holder = some m → (u.entry i).granule = (s.entry i).granule := fun i m hm =>
    h.granule i (hs.serving_of_occupied (.inl (by simp [hm])))
  have hqueued : ∀ i m, m ∈ (s.entry i).queue → (u.entry i).granule = (s.entry i).granule := fun i m hm =>
    h.granule i (hs.serving_of_occupied (.inr (List.ne_nil_of_mem hm)))
  constructor
  all_goals try simp only [TableLegal, OneMarkEach, h.ctx, h.active, h.covered, h.window, h.holder, h.queue, h.released,
    h.flight, h.hazard]
  case table => exact hs.table
  case reserved => exact hs.reserved
  case parkedActive => exact hs.parkedActive
  case releasedActive => exact hs.releasedActive
  case queueNodup => exact hs.queueNodup
  case queued => exact hs.queued
  case queuedOn =>
    intro i m p hp hr
    rw [hqueued i m ((hs.queued i m).mpr ⟨p, hp, hr⟩)]
    exact hs.queuedOn i m p hp hr
  case hazardNodup => exact hs.hazardNodup
  case hazarded => exact hs.hazarded
  case holders => exact hs.holders
  case waiters =>
    intro m i p hi hp
    rw [hheld i m ((hs.holders i m).mpr hi)]
    exact hs.waiters m i p hi hp
  case unreserved => exact hs.unreserved
  case unarmed => exact hs.unarmed
  case law4 => intro i m hi; rw [h.granule i (h.serving i hi)]; exact hs.law4 i m (h.serving i hi)
  case arming => intro i hi; rw [h.granule i (h.serving i hi)]; exact hs.arming i (h.serving i hi)
  case rereads => intro i m p hi; rw [h.granule i (h.serving i hi)]; exact hs.rereads i m p (h.serving i hi)
  case flightNamed => exact hs.flightNamed
  case releasedNamed =>
    intro r hr i hi
    have hn := hs.releasedNamed r hr i hi
    rw [hheld i _ hn.1]
    exact hn
  case marks => exact hs.marks
  case oneMark => exact hs.oneMark
  case tracked => exact law5.1
  case trackedActive => intro i hi; rw [← h.active]; exact (law5.2 i hi).1
  case trackedAllowed => intro i hi; rw [← h.window]; exact (law5.2 i hi).2
  case law6 => exact hs.law6
  case law10 => exact law10

/-- Such an update forgets no waiter and moves no tag; the tenures and drains are left to show. -/
theorem Retabled.kept {except : EntryIx → Prop} (hs : Agree s) (law5 : EntriesTrack u) (law10 : StatesMatch u)
    (tenure : ∀ i, (s.entry i).TenureOk → (u.entry i).TenureOk)
    (drain : ∀ i, ¬ except i → (s.entry i).DrainOk → (u.entry i).DrainOk) : Kept except s u where
  agree := h.agree hs law5 law10
  tenure := tenure
  drain := drain
  waits i _ hi := by
    unfold State.WaitOk
    rw [h.queue, h.holder, h.covered]
    intro hq hnone
    rw [h.granule i (hs.serving_of_occupied (.inr hq))]
    exact hi hq hnone
  hazards := by simp only [State.HazardsOk, h.hazard, h.ctx, h.covered]; exact id
  tags x := by simp only [State.tagCount, h.flight, h.released, h.ctx]; exact le_rfl

/-- Law 5 stays when no entry comes into use and those in use keep their granules. -/
theorem Retabled.law5 (hs : Agree s) (hused : ∀ i, (u.entry i).state ≠ .free →
    (s.entry i).state ≠ .free ∧ (u.entry i).granule = (s.entry i).granule) : EntriesTrack u := by
  refine ⟨fun i j hi hj hg => ?_, fun i hi => ?_⟩
  · rw [(hused i hi).2, (hused j hj).2] at hg
    exact hs.tracked i j (hused i hi).1 (hused j hj).1 hg
  · rw [(hused i hi).2, h.active, h.window]
    exact ⟨hs.trackedActive i (hused i hi).1, hs.trackedAllowed i (hused i hi).1⟩

end Retabled

/-- One entry replaced by one with the same holder and queue is such an update. -/
theorem State.retabled_updEntry (s : State) (e : EntryIx) (f : Entry → Entry)
    (hholder : (f (s.entry e)).holder = (s.entry e).holder) (hqueue : (f (s.entry e)).queue = (s.entry e).queue)
    (hserving : (f (s.entry e)).serving = true → (s.entry e).serving = true)
    (hgranule : (s.entry e).serving = true → (f (s.entry e)).granule = (s.entry e).granule) :
    Retabled s (s.updEntry e f) := by
  constructor
  case holder => intro i; rw [State.entry_updEntry]; split_ifs with hi <;> [(subst hi; exact hholder); rfl]
  case queue => intro i; rw [State.entry_updEntry]; split_ifs with hi <;> [(subst hi; exact hqueue); rfl]
  case serving => intro i; rw [State.entry_updEntry]; split_ifs with hi <;> [(subst hi; exact hserving); exact id]
  case granule => intro i; rw [State.entry_updEntry]; split_ifs with hi <;> [(subst hi; exact hgranule); exact fun _ => rfl]
  all_goals simp

/-- The laws of one entry by itself: Law 10 and the table of R71. -/
def Entry.StateOk (x : Entry) : Prop :=
  (x.state = .free → x = Entry.free) ∧ (x.state = .watch → x.holder = none ∧ x.queue = [] ∧ x.hot = false) ∧
    (x.state = .queued → x.hot = true) ∧ (x.state = .drain → x.hot = false)

theorem statesMatch_iff (s : State) : StatesMatch s ↔ ∀ e, (s.entry e).StateOk := Iff.rfl

/-- Law 10 after one entry is replaced. -/
theorem Agree.law10_updEntry {s : State} (hs : Agree s) (e : EntryIx) (f : Entry → Entry)
    (hf : (f (s.entry e)).StateOk) : StatesMatch (s.updEntry e f) := by
  intro i
  by_cases hi : i = e
  · subst hi; rw [State.entry_updEntry, if_pos rfl]; exact hf
  · simpa [hi] using hs.law10 i

/-- Law 5 after one entry is replaced by one in use on the same granule, or by a FREE one. -/
theorem Agree.law5_updEntry {s : State} (hs : Agree s) (e : EntryIx) (f : Entry → Entry)
    (hf : (f (s.entry e)).state ≠ .free →
      (s.entry e).state ≠ .free ∧ (f (s.entry e)).granule = (s.entry e).granule) : EntriesTrack (s.updEntry e f) := by
  have hall : ∀ i, ((s.updEntry e f).entry i).state ≠ .free →
      (s.entry i).state ≠ .free ∧ ((s.updEntry e f).entry i).granule = (s.entry i).granule := fun i => by
    by_cases hi : i = e
    · subst hi; rw [State.entry_updEntry, if_pos rfl]; exact hf
    · simp [hi]
  have hactive : ∀ w, (s.updEntry e f).active w = s.active w := fun w => by simp [State.active]
  refine ⟨fun i j hi hj hg => ?_, fun i hi => ?_⟩
  · rw [(hall i hi).2, (hall j hj).2] at hg
    exact hs.tracked i j (hall i hi).1 (hall j hj).1 hg
  · rw [(hall i hi).2, hactive, State.updEntry_window]
    exact ⟨hs.trackedActive i (hall i hi).1, hs.trackedAllowed i (hall i hi).1⟩

/-! The DRAIN exit and the holder release. -/

/-- A predicate of every entry, after one entry is replaced. -/
theorem State.forall_updEntry {s : State} {e : EntryIx} {f : Entry → Entry} {P : Entry → Prop}
    (hf : P (s.entry e) → P (f (s.entry e))) (i : EntryIx) (hi : P (s.entry i)) : P ((s.updEntry e f).entry i) := by
  rw [State.entry_updEntry]
  split_ifs with h
  · subst h; exact hf hi
  · exact hi

/-- The DRAIN exit keeps everything. -/
theorem State.kept_drainExit {s : State} (hs : Agree s) (e : EntryIx) : Kept nowhere s (s.drainExit e) := by
  obtain h | ⟨hstate, hnone, hq, h⟩ := s.drainExit_cases e
  · rw [h]; exact Kept.refl hs _
  · have hot := (hs.law10 e).2.2.2 hstate
    have hr : Retabled s (s.updEntry e fun x => { x with state := .watch }) :=
      s.retabled_updEntry e _ rfl rfl (by simp [Entry.serving]) fun _ => rfl
    have hk : Kept nowhere s (s.updEntry e fun x => { x with state := .watch }) :=
      hr.kept hs (hs.law5_updEntry e _ fun _ => ⟨by simp [hstate], rfl⟩)
        (hs.law10_updEntry e _ ⟨by simp, fun _ => ⟨hnone, hq, hot⟩, by simp, by simp⟩)
        (State.forall_updEntry fun h => h) (fun i _ => State.forall_updEntry (P := Entry.DrainOk) (by simp [Entry.DrainOk]) i)
    rw [h]
    exact hk.trans ((State.notify_sameRecords _ _).kept hk.agree)

/-- After the DRAIN exit no drain is left open. -/
theorem State.drainOk_drainExit (s : State) (e : EntryIx) : ((s.drainExit e).entry e).DrainOk := by
  obtain h | ⟨-, -, -, h⟩ := s.drainExit_cases e
  · intro hstate
    rw [h] at hstate ⊢
    by_contra hne
    push Not at hne
    have hexit : s.drainExit e = (s.updEntry e fun x => { x with state := .watch }).notify
        (.granuleCool e (s.entry e).granule) := if_pos ⟨hstate, hne.1, hne.2⟩
    have := congrArg (fun u => (u.entry e).state) (h.symm.trans hexit)
    simp [hstate] at this
  · rw [h]; simp [Entry.DrainOk]

/-- What follows a release closes the entry's drain and serves its waiters. -/
theorem State.keptLaws_settle {s t : State} {e : EntryIx} (h : KeptLaws (· = e) s t) :
    KeptLaws nowhere s (t.settle e) := by
  have hg := t.kept_attemptGrant h.agree e
  have hd := (t.attemptGrant e).kept_drainExit hg.agree e
  have hk := h.trans ((hg.trans hd).mono fun i hi => hi.elim)
  exact {
    agree := hk.agree
    tenure := hk.tenure
    hazards := hk.hazards
    drain := fun i _ hi => by
      by_cases hie : i = e
      · subst hie; exact State.drainOk_drainExit _ _
      · exact hk.drain i hie hi
    waits := fun i _ hi => by
      by_cases hie : i = e
      · subst hie; exact hd.waits i id (State.waitOk_attemptGrant h.agree i)
      · exact hk.waits i hie hi }

theorem State.kept_settle {s t : State} {e : EntryIx} (h : Kept (· = e) s t) : Kept nowhere s (t.settle e) where
  toKeptLaws := State.keptLaws_settle h.toKeptLaws
  tags x := by
    have hg := t.kept_attemptGrant h.agree e
    exact (((t.attemptGrant e).kept_drainExit hg.agree e).tags x).trans ((hg.tags x).trans (h.tags x))

/-- A holder release keeps everything. -/
theorem State.kept_releaseEntry {s : State} (hs : Agree s) (e : EntryIx) : Kept nowhere s (s.releaseEntry e) :=
  State.kept_settle (s.kept_endHolding hs e)

end Sys2Proof.Machine
end

section
/-! SUPPORT. What an accepted request does to the records keeps the laws: the move of a holder, the arming of a read, the
joins of the hazard list, of a grant queue and of the flight list, and contention events. -/

namespace Sys2Proof.Machine

open Sys2Proof.Safety Sys2Proof.Claim

/-! What a holder release leaves alone. -/

/-- The grant conditions and the DRAIN exit look at one entry, and the other entries stay. -/
theorem State.settle_entry_of_ne (s : State) {e i : EntryIx} (hi : i ≠ e) : (s.settle e).entry i = s.entry i := by
  have hd : ∀ t : State, (t.drainExit e).entry i = t.entry i := fun t => by
    obtain h | ⟨-, -, -, h⟩ := t.drainExit_cases e <;> rw [h]
    simp [hi]
  have hg : (s.attemptGrant e).entry i = s.entry i := by
    obtain h | ⟨k, -, -, -, -, h⟩ := s.attemptGrant_cases e <;> rw [h]
    simp [hi]
  rw [State.settle, hd, hg]

theorem State.settle_granule (s : State) (e i : EntryIx) : ((s.settle e).entry i).granule = (s.entry i).granule := by
  have hd : ∀ t : State, ((t.drainExit e).entry i).granule = (t.entry i).granule := fun t => by
    obtain h | ⟨-, -, -, h⟩ := t.drainExit_cases e <;> rw [h]
    rw [State.notify_entry, State.entry_updEntry]
    split_ifs <;> rfl
  rw [State.settle, hd]
  obtain h | ⟨k, -, -, -, -, h⟩ := s.attemptGrant_cases e <;> rw [h]
  rw [State.grant_entry]
  split_ifs <;> rfl

theorem State.settle_covered (s : State) (e : EntryIx) (g : Granule) : (s.settle e).covered g = s.covered g :=
  State.covered_congr (by simp) (by simp) g

/-- A holder release clears reservations, sends waiting reads to the arbiter and moves hazard reads; a master without a
parked read that is no other entry's holder ends without any of it. -/
theorem State.settle_ctx_of_idle {s : State} (hs : Agree s) (e : EntryIx) {m : Master} (hm : (s.ctx m).parked = none) :
    (s.settle e).ctx m = s.ctx m ∧ ∀ r ∈ (s.settle e).released, r.master = m → r ∈ s.released := by
  have hd : ∀ t : State, (t.drainExit e).ctx m = t.ctx m ∧ (t.drainExit e).released = t.released := fun t => by
    obtain h | ⟨-, -, -, h⟩ := t.drainExit_cases e <;> rw [h] <;> simp
  rw [State.settle, (hd _).1, (hd _).2]
  obtain h | ⟨k, hk, -, -, -, h⟩ := s.attemptGrant_cases e <;> rw [h]
  · exact ⟨rfl, fun _ hr _ => hr⟩
  · obtain ⟨rest, hq⟩ := List.head?_eq_some_iff.mp hk
    obtain ⟨p, hp, -⟩ := hs.parked_of_head hq
    have hmk : m ≠ k := by rintro rfl; simp [hm] at hp
    rw [State.grant_ctx, if_neg hmk, State.grant_released hp]
    refine ⟨rfl, fun r hr hrm => ?_⟩
    obtain hr | hr := List.mem_append.mp hr
    · exact hr
    · obtain rfl := List.mem_singleton.mp hr
      exact absurd hrm.symm hmk

section Move

variable {s : State} (hs : Agree s) {m : Master} {g : Granule}
include hs

/-- A move keeps everything. -/
theorem State.kept_move (m : Master) (g : Granule) : Kept nowhere s (s.move m g) := by
  have hl := (s.loosened_clearReservation m).kept hs
  unfold State.move
  dsimp only
  split
  · split_ifs
    · exact hl.trans (State.kept_releaseEntry hl.agree _)
    · exact hl
  · exact hl

/-- What a move leaves to a master without a parked read, and to the granule it moves to. -/
structure Moved (s : State) (m : Master) (g : Granule) (t : State) : Prop where
  kept : Kept nowhere s t
  windows : t.windows = s.windows
  mon : t.mon = s.mon
  covered : ∀ g', t.covered g' = s.covered g'
  granule : ∀ i, (t.entry i).granule = (s.entry i).granule
  entry : ∀ i, (s.entry i).granule = g → t.entry i = s.entry i
  parked : (t.ctx m).parked = none
  reservation : (t.ctx m).reservation = none
  unarmed : ∀ r ∈ t.released, r.master = m → r.arms = false
  holdership : (t.ctx m).holdership = none ∨
    ∃ e, (t.ctx m).holdership = some e ∧ (s.ctx m).holdership = some e ∧ (s.entry e).granule = g

theorem State.moved_move (hm : (s.ctx m).parked = none) : Moved s m g (s.move m g) := by
  have hl := s.loosened_clearReservation m
  have hkept := State.kept_move hs m g
  have hunarmed : ∀ r ∈ (s.clearReservation m).released, r.master = m → r.arms = false := fun r hr hrm => by
    obtain ⟨q, -, rfl⟩ := List.mem_map.mp ((State.clearReservations_released s _) ▸ hr)
    simpa using fun _ => hrm
  have hpark : ((s.clearReservation m).ctx m).parked = none := (hl.parked m).trans hm
  have hres : ((s.clearReservation m).ctx m).reservation = none := by simp
  unfold State.move at hkept ⊢
  dsimp only at hkept ⊢
  cases hh : ((s.clearReservation m).ctx m).holdership with
  | none =>
    rw [hh] at hkept
    exact ⟨hkept, hl.windows, hl.mon, hl.covered, fun i => by rw [hl.entry], fun i _ => hl.entry i, hpark, hres, hunarmed, .inl hh⟩
  | some e =>
    have hold : (s.ctx m).holdership = some e := (hl.holdership m).symm.trans hh
    have hholder : ((s.clearReservation m).entry e).holder = some m := by
      rw [hl.entry]; exact (hs.holders e m).mpr hold
    rw [hh] at hkept
    dsimp only at hkept ⊢
    split_ifs at hkept ⊢ with hc
    · have ha := hl.agree hs
      have hentry := letGo_entry (s.clearReservation m) m e
      have hagree := ha.letGo hholder
      have hq := requeued_letGo ha hholder
      have hll := (s.clearReservation m).loosened_loosedFrom m e
      have hctx := letGo_ctx (s.clearReservation m) m e m
      rw [if_pos rfl, hpark] at hctx
      have hrel : ∀ r ∈ (letGo m e (s.clearReservation m)).released, r.master = m → r.arms = false := fun r hr hrm => by
        rw [hq.released] at hr
        obtain ⟨q, hqm, hmm, -, -, hsame⟩ := hll.mem_released hr
        by_contra hne
        obtain rfl := hsame (by simpa using hne)
        exact hne (hunarmed r hqm hrm)
      obtain ⟨hsame, hreads⟩ := State.settle_ctx_of_idle hagree e (m := m) (by rw [hctx]; rfl)
      have heq : (s.clearReservation m).releaseEntry e = (letGo m e (s.clearReservation m)).settle e := by
        rw [State.releaseEntry, State.endHolding_eq_letGo ha.hazardMatches hholder]
      rw [heq] at hkept ⊢
      refine ⟨hkept, ?_, ?_, fun g' => ?_, fun i => ?_, fun i hi => ?_, ?_, ?_, fun r hr hrm => ?_, .inl ?_⟩
      · rw [State.settle_windows, hq.windows, hll.windows, hl.windows]
      · rw [State.settle_mon, hq.mon, hll.mon, hl.mon]
      · rw [State.settle_covered, hq.covered, hll.covered, hl.covered]
      · rw [State.settle_granule, hq.granules, hll.entry, hl.entry]
      · have hie : i ≠ e := by
          rintro rfl
          rw [hl.entry] at hc
          exact hc.2 hi
        rw [State.settle_entry_of_ne _ hie, hentry, if_neg hie, hl.entry]
      · rw [hsame, hctx]; rfl
      · rw [hsame, hctx]; simp
      · exact hrel r (hreads r hr hrm) hrm
      · rw [hsame, hctx]
    · refine ⟨hkept, hl.windows, hl.mon, hl.covered, fun i => by rw [hl.entry], fun i _ => hl.entry i, hpark, hres, hunarmed,
        .inr ⟨e, hh, hold, ?_⟩⟩
      rw [hl.entry] at hc hholder
      by_contra hg
      exact hc ⟨hholder, hg⟩

end Move

/-! The choices of the arbiter and of a replacement. -/

section Least

variable {α : Type} (f : α → Nat)

/-- The better of a choice made so far and the next candidate: the later one only when it is strictly less. -/
def leastStep (best : Option α) (x : α) : Option α :=
  match best with
  | none => some x
  | some b => if f x < f b then some x else some b

variable {f}

/-- A choice is a candidate, or the choice made before. -/
theorem foldl_leastStep_mem {l : List α} {best : Option α} {x : α} (h : l.foldl (leastStep f) best = some x) :
    best = some x ∨ x ∈ l := by
  induction l generalizing best with
  | nil => exact .inl h
  | cons y l ih =>
    obtain hx | hx := ih h
    · unfold leastStep at hx
      split at hx
      · simp_all
      · split_ifs at hx <;> simp_all
    · exact .inr (List.mem_cons_of_mem y hx)

/-- A choice stays while no later candidate is strictly less. -/
theorem foldl_leastStep_stays {l : List α} {x : α} (h : ∀ y ∈ l, f x ≤ f y) :
    l.foldl (leastStep f) (some x) = some x := by
  induction l with
  | nil => rfl
  | cons y l ih =>
    obtain ⟨hy, hl⟩ := List.forall_mem_cons.mp h
    rw [List.foldl_cons, leastStep, if_neg (by omega), ih hl]

/-- The choice is the first of the least candidates. -/
theorem foldl_leastStep_eq {before after : List α} {x : α} (hb : ∀ y ∈ before, f x < f y) (ha : ∀ y ∈ after, f x ≤ f y) :
    (before ++ x :: after).foldl (leastStep f) none = some x := by
  rw [List.foldl_append, List.foldl_cons]
  have hx : leastStep f (before.foldl (leastStep f) none) x = some x := by
    cases hc : before.foldl (leastStep f) none with
    | none => rfl
    | some b =>
      obtain h | h := foldl_leastStep_mem hc
      · cases h
      · simp [leastStep, hb b h]
  rw [hx, foldl_leastStep_stays ha]

/-- Nothing is chosen only where there is no candidate. -/
theorem foldl_leastStep_none {l : List α} : l.foldl (leastStep f) none = none ↔ l = [] := by
  cases l with
  | nil => simp
  | cons y l =>
    suffices h : ∀ (l : List α) (b : α), l.foldl (leastStep f) (some b) ≠ none by simpa [leastStep] using h l y
    intro l
    induction l with
    | nil => simp
    | cons z l ih =>
      intro b
      rw [List.foldl_cons, leastStep]
      split_ifs <;> exact ih _

end Least

/-- A replacement chooses among the candidates, in index order, by the fast value (R75). -/
theorem State.coldest_eq (s : State) :
    s.coldest = (entryIxs.filter fun e => (s.entry e).replaceable).foldl (leastStep fun e => (s.entry e).fast) none := by
  rw [List.foldl_filter, State.coldest]
  congr 1
  funext best e
  cases best <;> rfl

/-- The arbiter chooses among the reads that may be forwarded, in order of release, by the master (R124). -/
theorem State.arbiter_eq (s : State) :
    s.arbiter = (s.released.filter s.mayForward).foldl (leastStep fun r => r.master.val) none := by
  rw [State.arbiter]
  congr 1
  funext best r
  cases best <;> rfl

theorem State.coldest_replaceable {s : State} {e : EntryIx} (h : s.coldest = some e) :
    (s.entry e).replaceable = true := by
  obtain h | h := foldl_leastStep_mem (s.coldest_eq ▸ h)
  · cases h
  · exact (List.mem_filter.mp h).2

/-! Contention events. -/

/-- A contention event on a granule of an ACTIVE window keeps everything. -/
theorem State.kept_contentionEvent {s : State} (hs : Agree s) {g : Granule} (hactive : s.active g.window = true) :
    Kept nowhere s (s.contentionEvent g) := by
  by_cases hallowed : (s.window g.window).queuedAllowed = true
  · obtain ⟨-, h⟩ | ⟨e, he, h⟩ | ⟨e, hnone, he, h⟩ | ⟨-, -, -, h⟩ := s.contentionEvent_cases g
    · rw [h]; exact Kept.refl hs _
    · rw [h]
      have hr : Retabled s (s.updEntry e fun x => { x with count := min (x.count + 1) 15 }) :=
        s.retabled_updEntry e _ rfl rfl id fun _ => rfl
      have hused := (State.entryFor_some he).1
      exact ⟨(hr.kept hs (hs.law5_updEntry e _ fun _ => ⟨hused, rfl⟩)
        (hs.law10_updEntry e _ ⟨fun hf => absurd hf hused, (hs.law10 e).2⟩)
        (State.forall_updEntry fun h => h) fun i _ => State.forall_updEntry (P := Entry.DrainOk) (fun h => h) i).toKeptLaws,
        fun x => by simp [State.tagCount]⟩
    · rw [h]
      have hidle : (s.entry e).serving = false ∧ (s.entry e).holder = none ∧ (s.entry e).queue = [] := by
        have hfw : (s.entry e).state = .free ∨ (s.entry e).state = .watch := by
          obtain hf | ⟨-, hc⟩ := he
          · exact .inl (by simpa using List.find?_some hf)
          · have : (s.entry e).replaceable = true := State.coldest_replaceable hc
            simp only [Entry.replaceable, Bool.and_eq_true, decide_eq_true_eq] at this
            exact .inr this.1
        obtain ⟨hfree, hwatch, -⟩ := hs.law10 e
        obtain hf | hw := hfw
        · rw [hfree hf]; simp [Entry.free, Entry.serving]
        · exact ⟨by simp [Entry.serving, hw], (hwatch hw).1, (hwatch hw).2.1⟩
      obtain ⟨hserv, hholder, hqueue⟩ := hidle
      have hr : Retabled s (s.updEntry e fun _ => Entry.allocated g) :=
        s.retabled_updEntry e _ hholder.symm hqueue.symm (by simp [Entry.allocated, Entry.serving])
          fun hc => by simp [hserv] at hc
      have hlaw5 : EntriesTrack (s.updEntry e fun _ => Entry.allocated g) := by
        have hfresh := State.entryFor_none hnone
        refine ⟨fun i j hi hj hg => ?_, fun i hi => ?_⟩
        · have hij := hs.tracked i j
          have hi' := hfresh i
          have hj' := hfresh j
          simp only [State.entry_updEntry] at hi hj hg
          by_cases hie : i = e <;> by_cases hje : j = e
          · rw [hie, hje]
          · rw [if_neg hje] at hj hg
            exact absurd (by rw [← hg, if_pos hie]; rfl) (hj' hj)
          · rw [if_neg hie] at hi hg
            exact absurd (by rw [hg, if_pos hje]; rfl) (hi' hi)
          · rw [if_neg hie] at hi hg
            rw [if_neg hje] at hj hg
            exact hij hi hj hg
        · rw [hr.active, hr.window]
          simp only [State.entry_updEntry] at hi ⊢
          split_ifs at hi ⊢
          · exact ⟨hactive, hallowed⟩
          · exact ⟨hs.trackedActive i hi, hs.trackedAllowed i hi⟩
      exact hr.kept hs hlaw5 (hs.law10_updEntry e _ ⟨by simp [Entry.allocated], by simp [Entry.allocated, Entry.free],
          by simp [Entry.allocated], by simp [Entry.allocated]⟩)
        (State.forall_updEntry fun _ => by simp [Entry.TenureOk, Entry.allocated, Entry.free])
        fun i _ => State.forall_updEntry (P := Entry.DrainOk) (fun _ => by simp [Entry.DrainOk, Entry.allocated]) i
    · rw [h]; exact (s.notify_sameRecords _).kept hs
  · rw [State.contentionEvent, if_pos (by simpa using hallowed)]
    exact Kept.refl hs _

end Sys2Proof.Machine
end

section
/-! SUPPORT. New records keep the laws: a transaction that joins the flight list, a read that arms, and a read that is parked
in the hazard list or in a grant queue. -/

namespace Sys2Proof.Machine

open Sys2Proof.Safety Sys2Proof.Claim

/-! The flight list. -/

/-- A transaction at the tail of the flight list covers what it did not before only when it is a write. -/
theorem State.covered_track (s : State) (f : Flight) (g : Granule) :
    (s.track f).covered g = (s.covered g || (f.isWrite && s.inRange f.range g)) := by
  have hr : ∀ r, (s.track f).inRange r g = s.inRange r g := fun r => State.inRange_congr rfl r g
  simp [State.covered, hr]

theorem State.arm_flight (s : State) (m : Master) (t : Tag) (a : Addr) (g : Granule) (h : Option EntryIx) :
    (s.arm m t a g h).flight = unmarked m s.flight ++
      [{ kind := .lread true h, master := m, tag := t, address := a, range := oneGranule s g }] := by
  simp [State.arm, State.rangeOf, State.granuleBytes, unmarked, oneGranule]

theorem State.covered_arm (s : State) (m : Master) (t : Tag) (a : Addr) (g : Granule) (h : Option EntryIx) (g' : Granule) :
    (s.arm m t a g h).covered g' = s.covered g' := by
  have hr : ∀ r, (s.arm m t a g h).inRange r g' = s.inRange r g' := fun r => State.inRange_congr (by simp) r g'
  simp only [State.covered, State.arm_flight, unmarked, hr, List.any_append, List.any_map, Function.comp_def,
    Flight.unmark_isWrite, Flight.unmark_range]
  simp [Flight.isWrite]

section Track

variable {s : State} (hs : Agree s) {f : Flight} (harmed : f.armed = false) (hnamed : f.holderEntry = none)
  (hquiet : f.isWrite = true → ∀ r ∈ s.released, r.mode = .plain)
include hs harmed hnamed hquiet

/-- A transaction without mark and holder-entry joins the flight list, a write only while no read is to be armed. -/
theorem State.keptLaws_track : KeptLaws nowhere s (s.track f) := by
  have hactive : ∀ w, (s.track f).active w = s.active w := fun w => rfl
  have hcov : ∀ g, s.covered g = true → (s.track f).covered g = true := fun g hg => by
    rw [State.covered_track, hg]; rfl
  have hag : Agree (s.track f) := { hs with
    flightNamed := fun f' hf e he => by
      rw [State.track_flight, List.mem_append, List.mem_singleton] at hf
      obtain hf | rfl := hf
      · exact hs.flightNamed f' hf e he
      · rw [hnamed] at he; cases he
    marks := fun f' hf ha => by
      rw [State.track_flight, List.mem_append, List.mem_singleton] at hf
      obtain hf | rfl := hf
      · exact hs.marks f' hf ha
      · rw [harmed] at ha; cases ha
    oneMark := by
      unfold OneMarkEach
      rw [State.track_flight, List.pairwise_append]
      exact ⟨hs.oneMark, List.pairwise_singleton _ _, fun x _ y hy _ ha => by
        obtain rfl := List.mem_singleton.mp hy
        rw [harmed] at ha; cases ha⟩
    law6 := fun r hr hmode => by
      rw [State.covered_track, hs.law6 r hr hmode, Bool.false_or, Bool.and_eq_false_iff]
      cases hw : f.isWrite with
      | false => exact .inl rfl
      | true => exact absurd (hquiet hw r hr) hmode }
  exact ⟨hag, fun _ h => h, fun _ _ h => h, fun i _ h hq hn => hcov _ (h hq hn), fun h m hm p hp => hcov _ (h m hm p hp)⟩

end Track

/-- A transaction that joins the flight list adds its own tag. -/
theorem State.tagCount_track (s : State) (f : Flight) (x : Master × Tag) :
    (s.track f).tagCount x = s.tagCount x + if (f.master, f.tag) = x then 1 else 0 := by
  simp only [State.tagCount, State.track_flight, State.track_released, State.track_ctx, List.countP_append,
    List.countP_singleton, beq_iff_eq]
  omega

/-! Arming. -/

section Arm

variable {s : State} (hs : Agree s) {m : Master} {g : Granule} {h : Option EntryIx} (t : Tag) (a : Addr)
  (hactive : s.active g.window = true) (hparked : (s.ctx m).parked = none)
  (hserving : ∀ e, (s.entry e).serving = true → (s.entry e).granule = g → (s.entry e).holder = some m)
  (hnamed : ∀ e, h = some e → (s.entry e).holder = some m)

/-- A read that arms adds its own tag. -/
theorem State.tagCount_arm (s : State) (m : Master) (t : Tag) (a : Addr) (g : Granule) (h : Option EntryIx)
    (x : Master × Tag) : (s.arm m t a g h).tagCount x = s.tagCount x + if (m, t) = x then 1 else 0 := by
  have hp : ((s.arm m t a g h).ctx x.1).parked = (s.ctx x.1).parked := by rw [State.arm_ctx]; split_ifs <;> rfl
  simp only [State.tagCount, hp, State.arm_flight, unmarked, State.arm_released, List.countP_append, List.countP_map,
    Function.comp_def, Flight.unmark_master, Flight.unmark_tag]
  simp only [List.countP_singleton, beq_iff_eq]
  omega

include hs hactive hparked hserving hnamed

/-- A linked read that is forwarded and arms keeps the laws. -/
theorem State.keptLaws_arm : KeptLaws nowhere s (s.arm m t a g h) := by
  have hact : ∀ w, (s.arm m t a g h).active w = s.active w := fun w => by simp [State.active]
  have hcov := s.covered_arm m t a g h
  have hflight := s.arm_flight m t a g h
  have hpark : ∀ i, ((s.arm m t a g h).ctx i).parked = (s.ctx i).parked := fun i => by
    rw [State.arm_ctx]; split_ifs <;> rfl
  have hhold : ∀ i, ((s.arm m t a g h).ctx i).holdership = (s.ctx i).holdership := fun i => by
    rw [State.arm_ctx]; split_ifs <;> rfl
  have hag : Agree (s.arm m t a g h) := by
    constructor
    all_goals try simp only [TableLegal, hact, hcov, hpark, hhold, State.arm_entry, State.arm_window, State.arm_released,
      State.arm_hazard]
    case table => exact hs.table
    case reserved => intro i g'; rw [State.arm_ctx]; have := hs.reserved i g'; grind
    case parkedActive => exact hs.parkedActive
    case releasedActive => exact hs.releasedActive
    case queueNodup => exact hs.queueNodup
    case queued => exact hs.queued
    case queuedOn => exact hs.queuedOn
    case hazardNodup => exact hs.hazardNodup
    case hazarded => exact hs.hazarded
    case holders => exact hs.holders
    case waiters => exact hs.waiters
    case unreserved => intro i p hp; rw [State.arm_ctx]; have := hs.unreserved i p hp; grind
    case unarmed => exact hs.unarmed
    case law4 => intro e i he; rw [State.arm_ctx]; have := hs.law4 e i he; have := hserving e he; grind
    case arming => exact hs.arming
    case rereads => exact hs.rereads
    case flightNamed =>
      intro f hf e he
      rw [hflight, List.mem_append, List.mem_singleton] at hf
      obtain hf | rfl := hf
      · obtain ⟨f', hf', rfl⟩ := List.mem_map.mp hf
        rw [Flight.unmark_holderEntry] at he
        rw [Flight.unmark_master]
        exact hs.flightNamed f' hf' e he
      · exact hnamed e he
    case releasedNamed => exact hs.releasedNamed
    case marks =>
      intro f hf ha
      rw [hflight, List.mem_append, List.mem_singleton] at hf
      rw [State.arm_ctx]
      obtain hf | rfl := hf
      · obtain ⟨f', hf', rfl⟩ := List.mem_map.mp hf
        simp only [Flight.unmark_armed, Bool.and_eq_true, Bool.not_eq_true', decide_eq_false_iff_not] at ha
        rw [Flight.unmark_master, if_neg ha.2, Flight.unmark_range]
        exact hs.marks f' hf' ha.1
      · exact ⟨g, by simp, rfl⟩
    case oneMark =>
      unfold OneMarkEach
      rw [hflight, List.pairwise_append]
      refine ⟨?_, List.pairwise_singleton _ _, fun x hx y hy ha _ => ?_⟩
      · rw [unmarked, List.pairwise_map]
        exact hs.oneMark.imp fun {x y} hxy hx hy => by
          simp only [Flight.unmark_armed, Bool.and_eq_true] at hx hy
          simpa using hxy hx.1 hy.1
      · obtain rfl := List.mem_singleton.mp hy
        obtain ⟨f, -, rfl⟩ := List.mem_map.mp hx
        simp only [Flight.unmark_armed, Bool.and_eq_true, Bool.not_eq_true', decide_eq_false_iff_not] at ha
        simpa using ha.2
    case tracked => exact hs.tracked
    case trackedActive => exact hs.trackedActive
    case trackedAllowed => exact hs.trackedAllowed
    case law6 => exact hs.law6
    case law10 => intro e; simpa using hs.law10 e
  refine ⟨hag, fun i hi => by simpa using hi, fun i _ hi => by simpa using hi, fun i _ hi => ?_, fun hi => ?_⟩
  · unfold State.WaitOk; simp only [State.arm_entry, hcov]; exact hi
  · unfold State.HazardsOk; simp only [State.arm_hazard, hpark, hcov]; exact hi

end Arm

/-! Parked reads. -/

section Park

variable {s : State} (hs : Agree s) {r : Request} {g : Granule}

@[simp] theorem State.park_ctx (s : State) (r : Request) (g : Granule) (why : ParkReason) (i : Master) :
    (s.park r g why).ctx i =
      if i = r.master then { s.ctx i with parked := some (parkedAs r.tag r.address r.size g why) } else s.ctx i := by
  simp [State.park, parkedAs]

/-- A read parked where none was adds its own tag. -/
theorem State.tagCount_park {s : State} {r : Request} (hparked : (s.ctx r.master).parked = none) (g : Granule)
    (why : ParkReason) (x : Master × Tag) :
    (s.park r g why).tagCount x = s.tagCount x + if (r.master, r.tag) = x then 1 else 0 := by
  obtain ⟨m, t⟩ := x
  simp only [State.tagCount, State.park_flight, State.park_released, State.park_ctx]
  by_cases hm : m = r.master
  · subst hm; simp [hparked, parkedAs, Bool.toNat, Bool.cond_decide]
  · simp [hm, Ne.symm hm]

variable (hactive : s.active g.window = true) (hparked : (s.ctx r.master).parked = none)
  (hres : (s.ctx r.master).reservation = none) (harms : ∀ q ∈ s.released, q.master = r.master → q.arms = false)
include hs hactive hparked hres harms

/-- A read parked behind a write in flight keeps the laws, when its master holds what it waits for or nothing. -/
theorem State.keptLaws_parkHazard (hcov : s.covered g = true)
    (hholds : ∀ e, (s.ctx r.master).holdership = some e → (s.entry e).granule = g)
    (hserving : ∀ e, (s.entry e).serving = true → (s.entry e).granule = g → (s.entry e).holder = some r.master) :
    KeptLaws nowhere s { s.park r g .hazard with hazard := s.hazard ++ [r.master] } := by
  set u : State := { s.park r g .hazard with hazard := s.hazard ++ [r.master] } with hu
  have hctx : ∀ i, u.ctx i = if i = r.master then
      { s.ctx i with parked := some (parkedAs r.tag r.address r.size g .hazard) } else s.ctx i := fun i => by simp [hu]
  have hentry : ∀ i, u.entry i = s.entry i := fun i => by simp [hu]
  have hact : ∀ w, u.active w = s.active w := fun w => by simp [hu, State.active]
  have hucov : ∀ g, u.covered g = s.covered g := fun g => State.covered_congr (by simp [hu]) (by simp [hu]) g
  have hwin : ∀ w, u.window w = s.window w := fun w => by simp [hu]
  have hrel : u.released = s.released := by simp [hu]
  have hfl : u.flight = s.flight := by simp [hu]
  have hhz : u.hazard = s.hazard ++ [r.master] := by simp [hu]
  have hnot : r.master ∉ s.hazard := fun hm => by
    obtain ⟨p, hp, -⟩ := (hs.hazarded r.master).mp hm
    rw [hparked] at hp; cases hp
  have hag : Agree u := by
    constructor
    all_goals try simp only [TableLegal, OneMarkEach, hact, hucov, hentry, hwin, hrel, hfl, hhz, hctx]
    case table => exact hs.table
    case reserved => intro i g'; have := hs.reserved i g'; grind
    case parkedActive => intro i p; have := hs.parkedActive i p; grind [parkedAs]
    case releasedActive => exact hs.releasedActive
    case queueNodup => exact hs.queueNodup
    case queued => intro e i; have := hs.queued e i; grind [parkedAs]
    case queuedOn => intro e i p; have := hs.queuedOn e i p; grind [parkedAs]
    case hazardNodup => exact hs.hazardNodup.append (List.nodup_singleton _) (by simpa using hnot)
    case hazarded => intro i; have := hs.hazarded i; grind [parkedAs]
    case holders => intro e i; have := hs.holders e i; grind
    case waiters => intro i e p; have := hs.waiters i e p; have := hholds e; grind [parkedAs]
    case unreserved => intro i p; have := hs.unreserved i p; grind
    case unarmed => intro i p hp q hq hqm; have := hs.unarmed i p; have := harms q hq; grind
    case law4 => intro e i he; have := hs.law4 e i he; grind
    case arming => exact hs.arming
    case rereads => intro e i p he; have := hs.rereads e i p he; have := hserving e he; grind [parkedAs]
    case flightNamed => exact hs.flightNamed
    case releasedNamed => exact hs.releasedNamed
    case marks => intro f hf ha; have := hs.marks f hf ha; grind
    case oneMark => exact hs.oneMark
    case tracked => exact hs.tracked
    case trackedActive => exact hs.trackedActive
    case trackedAllowed => exact hs.trackedAllowed
    case law6 => exact hs.law6
    case law10 => intro e; rw [hentry]; exact hs.law10 e
  refine ⟨hag, fun i hi => by rwa [hentry], fun i _ hi => by rwa [hentry], fun i _ hi => ?_, fun hi i him p hp => ?_⟩
  · unfold State.WaitOk; rw [hentry, hucov]; exact hi
  · rw [hhz, List.mem_append, List.mem_singleton] at him
    rw [hctx] at hp
    rw [hucov]
    have := hi i
    grind [parkedAs]

/-- A read parked at the tail of the queue of an entry keeps the laws, when its master holds nothing. -/
theorem State.keptLaws_parkQueue {e : EntryIx} (hserv : (s.entry e).serving = true) (hgran : (s.entry e).granule = g)
    (hidle : (s.ctx r.master).holdership = none) :
    KeptLaws (· = e) s ((s.park r g (.queue e)).updEntry e fun x => { x with queue := x.queue ++ [r.master] }) := by
  set u : State := (s.park r g (.queue e)).updEntry e fun x => { x with queue := x.queue ++ [r.master] } with hu
  have hctx : ∀ i, u.ctx i = if i = r.master then
      { s.ctx i with parked := some (parkedAs r.tag r.address r.size g (.queue e)) } else s.ctx i := fun i => by simp [hu]
  have hentry : ∀ i, u.entry i = if i = e then { s.entry i with queue := (s.entry i).queue ++ [r.master] } else s.entry i :=
    fun i => by simp [hu]
  have hgranule : ∀ i, (u.entry i).granule = (s.entry i).granule := fun i => by rw [hentry]; split_ifs <;> rfl
  have hholder : ∀ i, (u.entry i).holder = (s.entry i).holder := fun i => by rw [hentry]; split_ifs <;> rfl
  have hstate : ∀ i, (u.entry i).state = (s.entry i).state := fun i => by rw [hentry]; split_ifs <;> rfl
  have hserving : ∀ i, (u.entry i).serving = (s.entry i).serving := fun i => by simp [Entry.serving, hstate]
  have hact : ∀ w, u.active w = s.active w := fun w => by simp [hu, State.active]
  have hucov : ∀ g, u.covered g = s.covered g := fun g => State.covered_congr (by simp [hu]) (by simp [hu]) g
  have hwin : ∀ w, u.window w = s.window w := fun w => by simp [hu]
  have hrel : u.released = s.released := by simp [hu]
  have hfl : u.flight = s.flight := by simp [hu]
  have hhz : u.hazard = s.hazard := by simp [hu]
  have hnotq : ∀ i, r.master ∉ (s.entry i).queue := fun i hm => by
    obtain ⟨p, hp, -⟩ := (hs.queued i r.master).mp hm
    rw [hparked] at hp; cases hp
  have hag : Agree u := by
    constructor
    all_goals try simp only [TableLegal, OneMarkEach, hact, hucov, hwin, hrel, hfl, hhz, hctx, hgranule, hholder, hstate,
      hserving]
    case table => exact hs.table
    case reserved => intro i g'; have := hs.reserved i g'; grind
    case parkedActive => intro i p; have := hs.parkedActive i p; grind [parkedAs]
    case releasedActive => exact hs.releasedActive
    case queueNodup =>
      intro i
      rw [hentry]
      have := hnotq i
      split_ifs
      · exact (hs.queueNodup i).append (List.nodup_singleton _) (by simpa using this)
      · exact hs.queueNodup i
    case queued => intro i k; have := hs.queued i k; rw [hentry]; grind [parkedAs]
    case queuedOn => intro i k p; have := hs.queuedOn i k p; grind [parkedAs]
    case hazardNodup => exact hs.hazardNodup
    case hazarded => intro i; have := hs.hazarded i; grind [parkedAs]
    case holders => intro i k; have := hs.holders i k; grind
    case waiters => intro k i p; have := hs.waiters k i p; grind [parkedAs]
    case unreserved => intro i p; have := hs.unreserved i p; grind
    case unarmed => intro i p hp q hq hqm; have := hs.unarmed i p; have := harms q hq; grind
    case law4 => intro i k hi; have := hs.law4 i k hi; grind
    case arming => exact hs.arming
    case rereads => intro i k p hi; have := hs.rereads i k p hi; grind [parkedAs]
    case flightNamed => exact hs.flightNamed
    case releasedNamed => exact hs.releasedNamed
    case marks => intro f hf ha; have := hs.marks f hf ha; grind
    case oneMark => exact hs.oneMark
    case tracked => exact hs.tracked
    case trackedActive => exact hs.trackedActive
    case trackedAllowed => exact hs.trackedAllowed
    case law6 => exact hs.law6
    case law10 =>
      intro i
      rw [hentry]
      split_ifs with hi
      · subst hi
        have := hs.law10 i
        have := (Entry.serving_iff _).mp hserv
        grind
      · exact hs.law10 i
  refine ⟨hag, fun i hi => ?_, fun i hie hi => ?_, fun i hie hi => ?_, fun hi k hk p hp => ?_⟩
  · rw [hentry]; split_ifs <;> exact hi
  · rw [hentry, if_neg hie]; exact hi
  · unfold State.WaitOk; rw [hucov, hentry, if_neg hie]; exact hi
  · rw [hctx] at hp
    rw [hucov]
    rw [hhz] at hk
    have hne : k ≠ r.master := by
      rintro rfl
      obtain ⟨q, hq, -⟩ := (hs.hazarded r.master).mp hk
      rw [hparked] at hq; cases hq
    rw [if_neg hne] at hp
    exact hi k hk p hp

end Park

end Sys2Proof.Machine
end

section
/-! SUPPORT. Far responses, write removals, the arbiter and withdrawals keep the laws (R59, R60, R63, R30, R39, R105). -/

namespace Sys2Proof.Machine

open Sys2Proof.Safety Sys2Proof.Claim

/-! A transaction leaves the flight list. -/

/-- The flight list without one entry. -/
def State.dropFlight (s : State) (f : Flight) : State := { s with flight := s.flight.erase f }

section DropFlight

variable {s : State} {f : Flight}

/-- What a removed entry does not cover stays covered. -/
theorem State.covered_dropFlight {g : Granule} (hf : f.isWrite = true → s.inRange f.range g = false)
    (hg : s.covered g = true) : (s.dropFlight f).covered g = true := by
  obtain ⟨f', hf', hw, hr⟩ := (s.covered_iff g).mp hg
  refine (State.covered_iff _ g).mpr ⟨f', ?_, hw, hr⟩
  refine (List.mem_erase_of_ne ?_).mpr hf'
  rintro rfl
  rw [hf hw] at hr
  cases hr

/-- The laws stay when an entry leaves the flight list. -/
theorem Agree.dropFlight (hs : Agree s) (f : Flight) : Agree (s.dropFlight f) :=
  have hmem : ∀ {f'}, f' ∈ (s.dropFlight f).flight → f' ∈ s.flight := fun h => List.mem_of_mem_erase h
  { hs with
    flightNamed := fun f' hf => hs.flightNamed f' (hmem hf)
    marks := fun f' hf => hs.marks f' (hmem hf)
    oneMark := hs.oneMark.sublist List.erase_sublist
    law6 := fun r hr hmode => (State.not_covered_iff _ _).mpr fun f' hf =>
      (State.not_covered_iff _ _).mp (hs.law6 r hr hmode) f' (hmem hf) }

theorem State.tagCount_dropFlight (s : State) (f : Flight) (x : Master × Tag) :
    (s.dropFlight f).tagCount x ≤ s.tagCount x :=
  Nat.add_le_add_right (Nat.add_le_add_right (List.erase_sublist.countP_le) _) _

/-- The removal of a read keeps everything. -/
theorem State.kept_dropFlight (hs : Agree s) (hread : f.isWrite = false) : Kept nowhere s (s.dropFlight f) where
  agree := hs.dropFlight f
  tenure _ h := h
  drain _ _ h := h
  waits _ _ h hq hn := State.covered_dropFlight (by simp [hread]) (h hq hn)
  hazards h m hm p hp := State.covered_dropFlight (by simp [hread]) (h m hm p hp)
  tags := s.tagCount_dropFlight f

end DropFlight

/-! The hazard list tests its reads. -/

theorem State.releaseHazards_ctx (s : State) (m : Master) :
    s.releaseHazards.ctx m = if m ∈ s.hazard ∧ s.uncovered m = true then { s.ctx m with parked := none } else s.ctx m := by
  simp [State.releaseHazards]

theorem State.releaseHazards_hazard (s : State) : s.releaseHazards.hazard = s.hazard.filter fun m => !s.uncovered m := rfl

theorem State.releaseHazards_released (s : State) :
    s.releaseHazards.released = s.released ++ (s.hazard.filter s.uncovered).filterMap fun m =>
      (s.ctx m).parked.map fun p => p.release m (.arm (s.heldEntry m p.granule)) := rfl

theorem State.releaseHazards_covered (s : State) (g : Granule) : s.releaseHazards.covered g = s.covered g :=
  State.covered_congr (by simp) (by simp) g

theorem State.uncovered_iff (s : State) (m : Master) :
    s.uncovered m = true ↔ ∃ p, (s.ctx m).parked = some p ∧ s.covered p.granule = false := by
  simp [State.uncovered, Option.any_eq_true]

section ReleaseHazards

variable {s : State} (hs : Agree s)

/-- A read released by the hazard list is an uncovered hazard read, of mode ARM. -/
theorem State.mem_releaseHazards {r : Released} (hr : r ∈ s.releaseHazards.released) :
    r ∈ s.released ∨ ∃ m p, m ∈ s.hazard ∧ (s.ctx m).parked = some p ∧ s.covered p.granule = false ∧
      r = p.release m (.arm (s.heldEntry m p.granule)) := by
  rw [State.releaseHazards_released, List.mem_append, List.mem_filterMap] at hr
  obtain hr | ⟨m, hm, hr⟩ := hr
  · exact .inl hr
  · obtain ⟨hm, hu⟩ := List.mem_filter.mp hm
    obtain ⟨p, hp, rfl⟩ := Option.map_eq_some_iff.mp hr
    obtain ⟨q, hq, hc⟩ := (s.uncovered_iff m).mp hu
    obtain rfl : p = q := by simpa [hp] using hq
    exact .inr ⟨m, p, hm, hp, hc, rfl⟩

include hs

/-- The master that holds an entry of a granule is found as its holder (R63). -/
theorem Agree.heldEntry_eq_some_iff {m : Master} {g : Granule} {e : EntryIx} :
    s.heldEntry m g = some e ↔ (s.entry e).holder = some m ∧ (s.entry e).granule = g := by
  have hlaw5 : EntriesTrack s := ⟨hs.tracked, fun e he => ⟨hs.trackedActive e he, hs.trackedAllowed e he⟩⟩
  unfold State.heldEntry
  rw [Option.filter_eq_some_iff, decide_eq_true_eq]
  constructor
  · rintro ⟨hf, hh⟩; exact ⟨hh, (State.entryFor_some hf).2⟩
  · rintro ⟨hh, rfl⟩
    have hserv := hs.serving_of_occupied (e := e) (.inl (by simp [hh]))
    exact ⟨State.entryFor_of_tracks (tracks_of_entriesTrack hlaw5 (Entry.used_of_serving hserv)), hh⟩

/-- The hazard list sends uncovered reads to the arbiter and moves their tags. -/
theorem Agree.tagCount_releaseHazards (x : Master × Tag) : s.releaseHazards.tagCount x = s.tagCount x := by
  have hcount := count_tags (fun m => (s.ctx m).parked) x (hs.hazardNodup.filter s.uncovered)
  have hreads : ((s.hazard.filter s.uncovered).filterMap fun m =>
      (s.ctx m).parked.map fun p => p.release m (.arm (s.heldEntry m p.granule))).countP
        (fun r => (r.master, r.tag) == x) =
      ((s.hazard.filter s.uncovered).filterMap fun m => (s.ctx m).parked.map fun p => (m, p.tag)).count x := by
    rw [List.count, List.countP_filterMap, List.countP_filterMap]
    refine List.countP_congr fun m _ => ?_
    cases (s.ctx m).parked <;> simp [Parked.release]
  simp only [State.tagCount, State.releaseHazards_flight, State.releaseHazards_released, List.countP_append, hreads, hcount,
    State.releaseHazards_ctx, List.mem_filter]
  by_cases hm : x.1 ∈ s.hazard ∧ s.uncovered x.1 = true
  · rw [if_pos hm]
    cases (s.ctx x.1).parked.any fun p => decide (p.tag = x.2) <;> simp [hm, Nat.add_assoc]
  · rw [if_neg hm]
    simp [hm]

/-- The hazard list's test keeps the laws. -/
theorem Agree.releaseHazards : Agree s.releaseHazards := by
  have hact : ∀ w, s.releaseHazards.active w = s.active w := fun w => by simp [State.active]
  have hfreed : ∀ {m}, m ∈ s.hazard → s.uncovered m = true → (s.releaseHazards.ctx m).parked = none := fun h1 h2 => by
    rw [State.releaseHazards_ctx, if_pos ⟨h1, h2⟩]
  have hpark : ∀ m p, (s.releaseHazards.ctx m).parked = some p →
      (s.ctx m).parked = some p ∧ ¬ (m ∈ s.hazard ∧ s.uncovered m = true) := fun m p hp => by
    rw [State.releaseHazards_ctx] at hp
    grind
  have hres : ∀ m, (s.releaseHazards.ctx m).reservation = (s.ctx m).reservation := fun m => by
    rw [State.releaseHazards_ctx]; split_ifs <;> rfl
  have hhold : ∀ m, (s.releaseHazards.ctx m).holdership = (s.ctx m).holdership := fun m => by
    rw [State.releaseHazards_ctx]; split_ifs <;> rfl
  constructor
  all_goals try simp only [TableLegal, OneMarkEach, hact, hres, hhold, State.releaseHazards_covered,
    State.releaseHazards_entry, State.releaseHazards_window, State.releaseHazards_flight]
  case table => exact hs.table
  case reserved => exact hs.reserved
  case parkedActive => exact fun m p hp => hs.parkedActive m p (hpark m p hp).1
  case releasedActive =>
    intro r hr hmode
    obtain hr | ⟨m, p, -, hp, -, rfl⟩ := State.mem_releaseHazards hr
    · exact hs.releasedActive r hr hmode
    · exact hs.parkedActive m p hp
  case queueNodup => exact hs.queueNodup
  case queued =>
    intro e m
    have hq := hs.queued e m
    have hh := hs.hazarded m
    rw [hq, State.releaseHazards_ctx]
    split_ifs with hm
    · obtain ⟨p, hp, hr⟩ := hh.mp hm.1
      simp [hp, hr]
    · rfl
  case queuedOn => exact fun e m p hp => hs.queuedOn e m p (hpark m p hp).1
  case hazardNodup => exact hs.hazardNodup.filter _
  case hazarded =>
    intro m
    have hh := hs.hazarded m
    rw [State.releaseHazards_hazard, List.mem_filter, State.releaseHazards_ctx]
    by_cases hm : m ∈ s.hazard ∧ s.uncovered m = true
    · rw [if_pos hm]; simp [hm]
    · rw [if_neg hm]; grind
  case holders => exact hs.holders
  case waiters => exact fun m e p he hp => hs.waiters m e p he (hpark m p hp).1
  case unreserved => exact fun m p hp => hs.unreserved m p (hpark m p hp).1
  case unarmed =>
    intro m p hp r hr hrm
    obtain ⟨hp, hnot⟩ := hpark m p hp
    obtain hr | ⟨k, q, hk, hq, hc, rfl⟩ := State.mem_releaseHazards hr
    · exact hs.unarmed m p hp r hr hrm
    · obtain rfl : k = m := hrm
      exact absurd ⟨hk, (s.uncovered_iff k).mpr ⟨q, hq, hc⟩⟩ hnot
  case law4 => exact hs.law4
  case arming =>
    intro e hserv r hr ha hg
    obtain hr | ⟨m, p, hm, hp, -, rfl⟩ := State.mem_releaseHazards hr
    · exact hs.arming e hserv r hr ha hg
    · obtain ⟨q, hq, hreason⟩ := (hs.hazarded m).mp hm
      obtain rfl : p = q := by simpa [hp] using hq
      have hholder := hs.rereads e m p hserv hp hreason hg
      exact ⟨hholder, hs.heldEntry_eq_some_iff.mpr ⟨hholder, hg.symm⟩⟩
  case rereads => exact fun e m p he hp => hs.rereads e m p he (hpark m p hp).1
  case flightNamed => exact hs.flightNamed
  case releasedNamed =>
    intro r hr e he
    obtain hr | ⟨m, p, -, -, -, rfl⟩ := State.mem_releaseHazards hr
    · exact hs.releasedNamed r hr e he
    · obtain ⟨hh, hg⟩ := hs.heldEntry_eq_some_iff.mp he
      exact ⟨hh, hg.symm⟩
  case marks => exact hs.marks
  case oneMark => exact hs.oneMark
  case tracked => exact hs.tracked
  case trackedActive => exact hs.trackedActive
  case trackedAllowed => exact hs.trackedAllowed
  case law6 =>
    intro r hr hmode
    obtain hr | ⟨m, p, -, -, hc, rfl⟩ := State.mem_releaseHazards hr
    · exact hs.law6 r hr hmode
    · exact hc
  case law10 => intro e; rw [State.releaseHazards_entry]; exact hs.law10 e

/-- The hazard list's test keeps everything. -/
theorem State.kept_releaseHazards : Kept nowhere s s.releaseHazards where
  agree := hs.releaseHazards
  tenure i h := by rwa [State.releaseHazards_entry]
  drain i _ h := by rwa [State.releaseHazards_entry]
  waits i _ h := by
    unfold State.WaitOk
    rw [State.releaseHazards_entry, State.releaseHazards_covered]
    exact h
  hazards h m hm p hp := by
    rw [State.releaseHazards_hazard, List.mem_filter] at hm
    rw [State.releaseHazards_ctx] at hp
    rw [State.releaseHazards_covered]
    have := h m hm.1 p
    grind
  tags x := (hs.tagCount_releaseHazards x).le

end ReleaseHazards

/-- After the hazard list's test every read left in it is covered. -/
theorem State.hazardsOk_releaseHazards (s : State) : s.releaseHazards.HazardsOk := by
  intro m hm p hp
  rw [State.releaseHazards_hazard, List.mem_filter, Bool.not_eq_true'] at hm
  rw [State.releaseHazards_ctx, if_neg (by simp [hm])] at hp
  rw [State.releaseHazards_covered]
  by_contra hc
  have := (s.uncovered_iff m).mpr ⟨p, hp, by simpa using hc⟩
  rw [this] at hm
  cases hm.2

/-! Write removals. -/

/-- The grants of a list of entries keep everything, and the entries of the list that the range includes are served. -/
theorem State.kept_grants (r : GranuleRange) (l : List EntryIx) {s : State} (hs : Agree s) :
    Kept nowhere s (l.foldl (fun s e => if s.inRange r (s.entry e).granule then s.attemptGrant e else s) s) ∧
      ∀ e ∈ l, s.inRange r (s.entry e).granule = true →
        (l.foldl (fun s e => if s.inRange r (s.entry e).granule then s.attemptGrant e else s) s).WaitOk e := by
  induction l generalizing s with
  | nil => exact ⟨Kept.refl hs _, by simp⟩
  | cons x l ih =>
    rw [List.foldl_cons]
    set t := if s.inRange r (s.entry x).granule then s.attemptGrant x else s with ht
    have hstep : Kept nowhere s t := by
      rw [ht]; split_ifs
      · exact s.kept_attemptGrant hs x
      · exact Kept.refl hs _
    have hrange : ∀ e, t.inRange r (t.entry e).granule = s.inRange r (s.entry e).granule := fun e => by
      rw [ht]; split_ifs
      · obtain h | ⟨k, -, -, -, -, h⟩ := s.attemptGrant_cases x <;> rw [h]
        rw [State.grant_entry, State.inRange_congr (t := s) (by simp)]
        split_ifs <;> rfl
      · rfl
    obtain ⟨hkept, hserved⟩ := ih hstep.agree
    refine ⟨hstep.trans hkept, fun e he hr => ?_⟩
    obtain rfl | he := List.mem_cons.mp he
    · refine hkept.waits e id ?_
      rw [ht, if_pos hr]
      exact s.waitOk_attemptGrant hs e
    · exact hserved e he (by rw [hrange]; exact hr)

/-- A write removal, with the entry already gone, keeps everything and serves all that the removed write held back. -/
theorem State.keptLaws_writeRemoval {s : State} (hs : Agree s) (r : GranuleRange) :
    Kept nowhere s (s.writeRemoval r) ∧ (s.writeRemoval r).HazardsOk ∧
      ∀ e, s.inRange r (s.entry e).granule = true → (s.writeRemoval r).WaitOk e := by
  have h := s.kept_releaseHazards hs
  obtain ⟨hk, hserved⟩ := State.kept_grants r entryIxs h.agree
  refine ⟨h.trans hk, hk.hazards s.hazardsOk_releaseHazards, fun e he => hserved e (List.mem_finRange e) ?_⟩
  rw [State.releaseHazards_entry, State.inRange_congr (t := s) (by simp)]
  exact he

/-- A far ERROR on a linked read keeps everything. -/
theorem State.kept_readFailed {s : State} (hs : Agree s) (m : Master) (armed : Bool) (h : Option EntryIx) :
    Kept nowhere s (s.readFailed m armed h) := by
  have hc : Kept nowhere s (if armed then s.clearReservation m else s) := by
    split_ifs
    · exact (s.loosened_clearReservation m).kept hs
    · exact Kept.refl hs _
  cases h with
  | none => exact hc
  | some e =>
    unfold State.readFailed
    dsimp only
    generalize (if armed then s.clearReservation m else s) = t at hc ⊢
    split_ifs
    · exact hc.trans (State.kept_releaseEntry hc.agree e)
    · exact hc

/-- A removal hands MEMORY_ERROR over, or nothing, when the entry is gone. -/
theorem State.remove_eq (s : State) (f : Flight) (st : FarStatus) :
    s.remove f st =
      let t := if st = .error then (s.dropFlight f).notify (.memoryError f.master f.tag f.address) else s.dropFlight f
      match f.kind with
      | .lread armed h => if st = .error then t.readFailed f.master armed h else t
      | _ => t.writeRemoval f.range := by
  unfold State.remove State.dropFlight
  cases f.kind <;> rfl

/-- The removal of a flight-list entry keeps everything. -/
theorem State.kept_remove {s : State} (hs : Agree s) (f : Flight) (st : FarStatus) : Kept nowhere s (s.remove f st) := by
  set t := if st = .error then (s.dropFlight f).notify (.memoryError f.master f.tag f.address) else s.dropFlight f with ht
  have hnotify : Kept nowhere (s.dropFlight f) t := by
    rw [ht]; split_ifs
    · exact (State.notify_sameRecords _ _).kept (hs.dropFlight f)
    · exact Kept.refl (hs.dropFlight f) _
  have hentry : ∀ e, t.entry e = s.entry e := fun e => by rw [ht]; split_ifs <;> simp [State.dropFlight]
  have hwindows : t.windows = s.windows := by rw [ht]; split_ifs <;> simp [State.dropFlight]
  have hwrite : f.isWrite = true → Kept nowhere s (t.writeRemoval f.range) := fun hw => by
    obtain ⟨hk, hhaz, hserved⟩ := State.keptLaws_writeRemoval hnotify.agree f.range
    exact {
      agree := hk.agree
      tenure := fun i hi => hk.tenure i (hnotify.tenure i hi)
      drain := fun i hn hi => hk.drain i hn (hnotify.drain i hn hi)
      hazards := fun _ => hhaz
      tags := fun x => ((hk.tags x).trans (hnotify.tags x)).trans (s.tagCount_dropFlight f x)
      waits := fun i hn hi => by
        by_cases hr : s.inRange f.range (s.entry i).granule = true
        · exact hserved i (by rw [hentry, State.inRange_congr hwindows]; exact hr)
        · exact hk.waits i hn (hnotify.waits i hn fun hq hnone =>
            State.covered_dropFlight (fun _ => Bool.not_eq_true _ ▸ hr) (hi hq hnone)) }
  rw [State.remove_eq, ← ht]
  dsimp only
  cases hkind : f.kind with
  | write => exact hwrite (by simp [Flight.isWrite, hkind])
  | cwrite => exact hwrite (by simp [Flight.isWrite, hkind])
  | lread armed h =>
    have hread : f.isWrite = false := by simp [Flight.isWrite, hkind]
    have hgone := (State.kept_dropFlight hs hread).trans hnotify
    dsimp only
    split_ifs
    · exact hgone.trans (State.kept_readFailed hgone.agree _ _ _)
    · exact hgone

/-- A far response keeps everything. -/
theorem State.kept_respond {s : State} (hs : Agree s) (r : FarResponse) : Kept nowhere s (s.respond r) := by
  have hsettle : Kept nowhere s (s.settleResponse r) := by
    unfold State.settleResponse
    split
    · exact s.kept_remove hs _ _
    · split_ifs
      · exact SameRecords.kept (by constructor <;> rfl) hs
      · exact Kept.refl hs _
  exact hsettle.trans (SameRecords.kept (by constructor <;> rfl) hsettle.agree)

/-! The arbiter. -/

/-- The arbiter without one waiting read. -/
def State.dropReleased (s : State) (r : Released) : State := { s with released := s.released.erase r }

/-- The laws stay when a read leaves the arbiter. -/
theorem State.kept_dropReleased {s : State} (hs : Agree s) (r : Released) : Kept nowhere s (s.dropReleased r) where
  agree :=
    have hmem : ∀ {q}, q ∈ (s.dropReleased r).released → q ∈ s.released := fun h => List.mem_of_mem_erase h
    { hs with
      releasedActive := fun q hq => hs.releasedActive q (hmem hq)
      unarmed := fun m p hp q hq => hs.unarmed m p hp q (hmem hq)
      arming := fun e he q hq => hs.arming e he q (hmem hq)
      releasedNamed := fun q hq => hs.releasedNamed q (hmem hq)
      law6 := fun q hq => hs.law6 q (hmem hq) }
  tenure _ h := h
  drain _ _ h := h
  waits _ _ h := h
  hazards h := h
  tags _ := Nat.add_le_add_right (Nat.add_le_add_left (List.erase_sublist.countP_le) _) _

/-- A read that leaves the arbiter takes its tag with it. -/
theorem State.tagCount_dropReleased {s : State} {r : Released} (hr : r ∈ s.released) (x : Master × Tag) :
    (s.dropReleased r).tagCount x + (if (r.master, r.tag) = x then 1 else 0) = s.tagCount x := by
  have := (List.perm_cons_erase hr).countP_eq fun q => (q.master, q.tag) == x
  rw [List.countP_cons] at this
  simp only [State.tagCount, State.dropReleased, State.ctx_mk, State.contexts_getElem] at this ⊢
  simp only [beq_iff_eq] at this
  omega

/-- The forwarding of a waiting read, by its arming mode. -/
theorem State.forwardRead_arm (s : State) {r : Released} {h : Option EntryIx} (hmode : r.mode = .arm h) :
    s.forwardRead r = ((s.dropReleased r).arm r.master r.tag r.address r.granule h).forwarded r.toFar := by
  unfold State.forwardRead
  rw [hmode]
  rfl

theorem State.forwardRead_disarmed (s : State) {r : Released} (hmode : r.mode = .disarmed) :
    s.forwardRead r = ((s.dropReleased r).track
      { kind := .lread false none, master := r.master, tag := r.tag, address := r.address,
        range := s.rangeOf r.granule }).forwarded r.toFar := by
  unfold State.forwardRead
  rw [hmode]
  rfl

theorem State.forwardRead_plain (s : State) {r : Released} (hmode : r.mode = .plain) :
    s.forwardRead r = ((s.dropReleased r).setNomon r.master r.tag true).forwarded r.toFar := by
  unfold State.forwardRead
  rw [hmode]
  rfl

/-- What moves on the channels is no record of the laws. -/
theorem State.forwarded_sameRecords (s : State) (r : FarRequest) : SameRecords s (s.forwarded r) := by
  constructor <;> rfl

/-- The forwarding of a waiting read keeps everything. -/
theorem State.kept_forwardRead {s : State} (hs : Agree s) {r : Released} (hr : r ∈ s.released) :
    Kept nowhere s (s.forwardRead r) := by
  have hd := s.kept_dropReleased hs r
  have htags := State.tagCount_dropReleased hr
  cases hmode : r.mode with
  | arm h =>
    have ha : r.arms = true := by simp [Released.arms, hmode]
    have hplain := Released.not_plain_of_arms ha
    have hparked : (s.ctx r.master).parked = none := by
      cases hp : (s.ctx r.master).parked with
      | none => rfl
      | some p => simp [hs.unarmed r.master p hp r hr rfl] at ha
    have harm := (s.dropReleased r).keptLaws_arm hd.agree (h := h) r.tag r.address (hs.releasedActive r hr hplain) hparked
      (fun e he hg => (hs.arming e he r hr ha hg.symm).1)
      (fun e he => (hs.releasedNamed r hr e (by simp [Released.holderEntry, hmode, he])).1)
    have hfar := (State.forwarded_sameRecords _ r.toFar).kept harm.agree
    rw [s.forwardRead_arm hmode]
    refine ⟨(hd.toKeptLaws.trans harm).trans hfar.toKeptLaws, fun x => (hfar.tags x).trans ?_⟩
    rw [State.tagCount_arm]
    exact (htags x).le
  | disarmed =>
    have htrack := (s.dropReleased r).keptLaws_track hd.agree
      (f := { kind := .lread false none, master := r.master, tag := r.tag, address := r.address,
              range := s.rangeOf r.granule }) rfl rfl (by simp [Flight.isWrite])
    have hfar := (State.forwarded_sameRecords _ r.toFar).kept htrack.agree
    rw [s.forwardRead_disarmed hmode]
    refine ⟨(hd.toKeptLaws.trans htrack).trans hfar.toKeptLaws, fun x => (hfar.tags x).trans ?_⟩
    rw [State.tagCount_track]
    exact (htags x).le
  | plain =>
    rw [s.forwardRead_plain hmode]
    exact hd.trans (SameRecords.kept (by constructor <;> rfl) hd.agree)

/-! Withdrawals. -/

/-- A master's parked read is withdrawn: it leaves its context, the hazard list and every queue. -/
structure Unparked (s : State) (m : Master) (u : State) : Prop where
  windows : u.windows = s.windows
  mon : u.mon = s.mon
  flight : u.flight = s.flight
  released : u.released = s.released
  ctx : ∀ i, u.ctx i = if i = m then { s.ctx i with parked := none } else s.ctx i
  hazard : u.hazard = s.hazard.filter fun i => decide (i ≠ m)
  entry : ∀ i, u.entry i = { s.entry i with queue := (s.entry i).queue.filter fun j => decide (j ≠ m) }

section Unparked

variable {s u : State} {m : Master} (h : Unparked s m u)
include h

/-- A withdrawal keeps the laws. -/
theorem Unparked.agree (hs : Agree s) : Agree u := by
  have hwin : ∀ w, u.window w = s.window w := fun w => by simp only [State.window, h.windows]
  have hact : ∀ w, u.active w = s.active w := fun w => by simp only [State.active, hwin, h.mon]
  have hcov : ∀ g, u.covered g = s.covered g := fun g => State.covered_congr h.windows h.flight g
  have hpark : ∀ k p, (u.ctx k).parked = some p ↔ (s.ctx k).parked = some p ∧ k ≠ m := fun k p => by
    rw [h.ctx]; grind
  have hres : ∀ k, (u.ctx k).reservation = (s.ctx k).reservation := fun k => by rw [h.ctx]; split_ifs <;> rfl
  have hhold : ∀ k, (u.ctx k).holdership = (s.ctx k).holdership := fun k => by rw [h.ctx]; split_ifs <;> rfl
  have hgranule : ∀ i, (u.entry i).granule = (s.entry i).granule := fun i => by rw [h.entry]
  have hholder : ∀ i, (u.entry i).holder = (s.entry i).holder := fun i => by rw [h.entry]
  have hstate : ∀ i, (u.entry i).state = (s.entry i).state := fun i => by rw [h.entry]
  have hserving : ∀ i, (u.entry i).serving = (s.entry i).serving := fun i => by simp [Entry.serving, hstate]
  have hqueue : ∀ i, (u.entry i).queue = (s.entry i).queue.filter fun j => decide (j ≠ m) := fun i => by rw [h.entry]
  constructor
  all_goals try simp only [TableLegal, OneMarkEach, hwin, hact, hcov, hpark, hres, hhold, hgranule, hholder, hstate, hserving,
    hqueue, h.flight, h.released, h.hazard]
  case table => exact hs.table
  case reserved => exact hs.reserved
  case parkedActive => exact fun k p hp => hs.parkedActive k p hp.1
  case releasedActive => exact hs.releasedActive
  case queueNodup => exact fun i => (hs.queueNodup i).filter _
  case queued => intro i k; rw [List.mem_filter, hs.queued]; grind
  case queuedOn => exact fun i k p hp => hs.queuedOn i k p hp.1
  case hazardNodup => exact hs.hazardNodup.filter _
  case hazarded => intro k; rw [List.mem_filter, hs.hazarded]; grind
  case holders => exact hs.holders
  case waiters => exact fun k i p hi hp => hs.waiters k i p hi hp.1
  case unreserved => exact fun k p hp => hs.unreserved k p hp.1
  case unarmed => exact fun k p hp => hs.unarmed k p hp.1
  case law4 => exact hs.law4
  case arming => exact hs.arming
  case rereads => exact fun i k p hi hp => hs.rereads i k p hi hp.1
  case flightNamed => exact hs.flightNamed
  case releasedNamed => exact hs.releasedNamed
  case marks => exact hs.marks
  case oneMark => exact hs.oneMark
  case tracked => exact hs.tracked
  case trackedActive => exact hs.trackedActive
  case trackedAllowed => exact hs.trackedAllowed
  case law6 => exact hs.law6
  case law10 =>
    intro i
    have := hs.law10 i
    rw [h.entry]
    refine ⟨fun hf => ?_, fun hw => ?_, this.2.2⟩
    · rw [this.1 hf]; rfl
    · obtain ⟨h1, h2, h3⟩ := this.2.1 hw
      exact ⟨h1, by simp [h2], h3⟩

/-- A withdrawal strands no waiter. -/
theorem Unparked.waits {i : EntryIx} (hi : s.WaitOk i) : u.WaitOk i := by
  intro hq hn
  rw [h.entry] at hq hn ⊢
  rw [State.covered_congr h.windows h.flight]
  exact hi (fun h0 => hq (by simp [h0])) hn

/-- A withdrawal keeps all but the drain of an entry it leaves without waiters. -/
theorem Unparked.kept (hs : Agree s) {except : EntryIx → Prop}
    (hothers : ∀ i, ¬ except i → m ∉ (s.entry i).queue) : Kept except s u where
  agree := h.agree hs
  tenure i hi := by rw [h.entry]; exact hi
  drain i hx hi := by
    have : (s.entry i).queue.filter (fun j => decide (j ≠ m)) = (s.entry i).queue :=
      List.filter_eq_self.mpr fun j hj => by
        have := hothers i hx
        simp only [ne_eq, decide_not, Bool.not_eq_true', decide_eq_false_iff_not]
        rintro rfl
        exact this hj
    rw [h.entry, this]
    exact hi
  waits i _ hi := h.waits hi
  hazards hh k hk p hp := by
    rw [h.hazard, List.mem_filter] at hk
    rw [h.ctx] at hp
    rw [State.covered_congr h.windows h.flight]
    have := hh k hk.1 p
    grind
  tags x := by
    have : ((u.ctx x.1).parked.any fun p => decide (p.tag = x.2)).toNat ≤
        ((s.ctx x.1).parked.any fun p => decide (p.tag = x.2)).toNat := by
      rw [h.ctx]
      split_ifs
      · exact Nat.zero_le _
      · exact le_rfl
    rw [State.tagCount, State.tagCount, h.flight, h.released]
    omega

/-- A withdrawal keeps everything once the entry it left takes its DRAIN exit. -/
theorem Unparked.kept_drainExit (hs : Agree s) {e : EntryIx} (honly : ∀ i, i ≠ e → m ∉ (s.entry i).queue) :
    Kept nowhere s (u.drainExit e) := by
  have hk := h.kept hs (except := (· = e)) honly
  have hd := State.kept_drainExit hk.agree e
  exact {
    agree := hd.agree
    tenure := fun i hi => hd.tenure i (hk.tenure i hi)
    hazards := fun hi => hd.hazards (hk.hazards hi)
    tags := fun x => (hd.tags x).trans (hk.tags x)
    drain := fun i _ hi => by
      by_cases hie : i = e
      · subst hie; exact State.drainOk_drainExit _ _
      · exact hd.drain i id (hk.drain i hie hi)
    waits := fun i _ hi => hd.waits i id (h.waits hi) }

end Unparked

/-- The state of a withdrawal before its record leaves the list that it stands in. -/
def State.unpark (s : State) (m : Master) (t : Tag) : State :=
  (s.updCtx m fun c => { c with parked := none }).enqueue m t .cancelled

theorem State.unpark_ctx (s : State) (m : Master) (t : Tag) (i : Master) :
    (s.unpark m t).ctx i = if i = m then { s.ctx i with parked := none } else s.ctx i := by
  simp [State.unpark]

@[simp] theorem State.unpark_entry (s : State) (m : Master) (t : Tag) (i : EntryIx) : (s.unpark m t).entry i = s.entry i := by
  simp [State.unpark]

@[simp] theorem State.unpark_hazard (s : State) (m : Master) (t : Tag) : (s.unpark m t).hazard = s.hazard := by
  simp [State.unpark]

@[simp] theorem State.unpark_lists (s : State) (m : Master) (t : Tag) :
    (s.unpark m t).windows = s.windows ∧ (s.unpark m t).mon = s.mon ∧ (s.unpark m t).flight = s.flight ∧
      (s.unpark m t).released = s.released := by
  simp [State.unpark]

theorem State.cancel_hazard (s : State) (m : Master) {p : Parked} (hr : p.reason = .hazard) :
    s.cancel m p = { s.unpark m p.tag with hazard := (s.unpark m p.tag).hazard.filter fun i => decide (i ≠ m) } := by
  unfold State.cancel
  rw [hr]
  rfl

theorem State.cancel_queue (s : State) (m : Master) {p : Parked} {e : EntryIx} (hr : p.reason = .queue e) :
    s.cancel m p = ((s.unpark m p.tag).updEntry e fun x =>
      { x with queue := x.queue.filter fun i => decide (i ≠ m) }).drainExit e := by
  unfold State.cancel
  rw [hr]
  rfl

theorem filter_ne_of_notMem {l : List Master} {m : Master} (hm : m ∉ l) : l.filter (fun j => decide (j ≠ m)) = l :=
  List.filter_eq_self.mpr fun j hj => by
    simp only [ne_eq, decide_not, Bool.not_eq_true', decide_eq_false_iff_not]
    rintro rfl
    exact hm hj

/-- What the withdrawal of a hazard read leaves. -/
theorem Agree.unparked_hazard {s : State} (hs : Agree s) {m : Master} {p : Parked} (hp : (s.ctx m).parked = some p)
    (hr : p.reason = .hazard) :
    Unparked s m { s.unpark m p.tag with hazard := (s.unpark m p.tag).hazard.filter fun i => decide (i ≠ m) } := by
  have hnone : ∀ i, m ∉ (s.entry i).queue := fun i => by rw [hs.queued]; simp [hp, hr]
  constructor
  case entry => intro i; rw [filter_ne_of_notMem (hnone i)]; simp
  case ctx => intro i; rw [State.ctx_mk, ← State.unpark_ctx s m p.tag i]; simp
  all_goals simp

/-- What the withdrawal of a queued read leaves, before the DRAIN exit. -/
theorem Agree.unparked_queue {s : State} (hs : Agree s) {m : Master} {p : Parked} (hp : (s.ctx m).parked = some p)
    {e : EntryIx} (hr : p.reason = .queue e) :
    Unparked s m ((s.unpark m p.tag).updEntry e fun x => { x with queue := x.queue.filter fun i => decide (i ≠ m) }) := by
  have hnone : ∀ i, i ≠ e → m ∉ (s.entry i).queue := fun i hi => by rw [hs.queued]; simpa [hp, hr] using hi.symm
  have hlist : m ∉ s.hazard := by rw [hs.hazarded]; simp [hp, hr]
  constructor
  case entry =>
    intro i
    by_cases hi : i = e
    · subst hi; simp
    · rw [filter_ne_of_notMem (hnone i hi)]; simp [hi]
  case ctx => intro i; rw [State.updEntry_ctx, State.unpark_ctx]
  case hazard => rw [filter_ne_of_notMem hlist]; simp
  all_goals simp

/-- The withdrawal of a parked read keeps everything. -/
theorem State.kept_cancel {s : State} (hs : Agree s) {m : Master} {p : Parked} (hp : (s.ctx m).parked = some p) :
    Kept nowhere s (s.cancel m p) := by
  cases hr : p.reason with
  | hazard =>
    rw [State.cancel_hazard s m hr]
    exact (hs.unparked_hazard hp hr).kept hs fun i _ => by rw [hs.queued]; simp [hp, hr]
  | queue e =>
    rw [State.cancel_queue s m hr]
    exact (hs.unparked_queue hp hr).kept_drainExit hs fun i hi => by
      rw [hs.queued]; simpa [hp, hr] using fun h => hi h.symm

end Sys2Proof.Machine
end

section
/-! SUPPORT. The dissolution of windows: it keeps the laws, and releases each parked read of its windows once. -/

namespace Sys2Proof.Machine

open Sys2Proof.Safety Sys2Proof.Claim

/-- A list of masters without repetition that holds every master with a value gives the values of all masters. -/
theorem filterMap_perm_masters {α : Type} (f : Master → Option α) {l : List Master} (hl : l.Nodup)
    (hmem : ∀ m x, f m = some x → m ∈ l) : (l.filterMap f).Perm (masters.filterMap f) := by
  have hsome : ∀ l : List Master, l.filterMap f = (l.filter fun m => (f m).isSome).filterMap f := fun l => by
    rw [List.filterMap_filter]
    refine List.filterMap_congr fun m _ => ?_
    cases f m <;> rfl
  rw [hsome l, hsome masters]
  refine List.Perm.filterMap f ((List.perm_ext_iff_of_nodup (hl.filter _) ((List.nodup_finRange 16).filter _)).mpr fun m => ?_)
  simp only [List.mem_filter, List.mem_finRange, true_and, and_iff_right_iff_imp, Option.isSome_iff_exists]
  rintro ⟨x, hx⟩
  exact hmem m x hx

section

variable {s : State} (hs : Agree s)
include hs

/-- The masters that wait, in the queues and in the hazard list, each stand in one place. -/
theorem Agree.nodup_waiting : (entryIxs.flatMap (fun e => (s.entry e).queue) ++ s.hazard).Nodup := by
  rw [List.nodup_append', List.nodup_flatMap]
  refine ⟨⟨fun e _ => hs.queueNodup e, ?_⟩, hs.hazardNodup, ?_⟩
  · refine (List.nodup_finRange 32).imp fun {e f} hef m he hf => hef ?_
    obtain ⟨p, hp, hr⟩ := (hs.queued e m).mp he
    obtain ⟨q, hq, hr'⟩ := (hs.queued f m).mp hf
    grind
  · intro m hq hh
    obtain ⟨e, -, he⟩ := List.mem_flatMap.mp hq
    obtain ⟨p, hp, hr⟩ := (hs.queued e m).mp he
    obtain ⟨q, hq, hr'⟩ := (hs.hazarded m).mp hh
    grind

/-- Every parked read waits in a queue or in the hazard list. -/
theorem Agree.mem_waiting {m : Master} {p : Parked} (hp : (s.ctx m).parked = some p) :
    m ∈ entryIxs.flatMap (fun e => (s.entry e).queue) ++ s.hazard := by
  rw [List.mem_append, List.mem_flatMap]
  cases hr : p.reason with
  | hazard => exact .inr ((hs.hazarded m).mpr ⟨p, hp, hr⟩)
  | queue e => exact .inl ⟨e, List.mem_finRange e, (hs.queued e m).mpr ⟨p, hp, hr⟩⟩

/-- The reads that a dissolution releases are the parked reads of its windows, each once. -/
theorem Agree.dissolvedReads_perm (p : WindowIx → Bool) : (s.dissolvedReads p).Perm (plainReads s p) := by
  refine filterMap_perm_masters _ hs.nodup_waiting fun m r hr => ?_
  obtain ⟨q, hq, -⟩ := Option.map_eq_some_iff.mp hr
  exact hs.mem_waiting (Option.filter_eq_some_iff.mp hq).1

end

/-- The reads released by a dissolution, master by master. -/
theorem mem_plainReads {s : State} {p : WindowIx → Bool} {r : Released} :
    r ∈ plainReads s p ↔ ∃ q, (s.ctx r.master).parked = some q ∧ p q.granule.window = true ∧ r = q.release r.master .plain := by
  simp only [plainReads, masters, List.mem_filterMap, List.mem_finRange, true_and, Option.map_eq_some_iff,
    Option.filter_eq_some_iff]
  constructor
  · rintro ⟨m, q, ⟨hq, hp⟩, rfl⟩
    exact ⟨q, hq, hp, rfl⟩
  · rintro ⟨q, hq, hp, hr⟩
    exact ⟨r.master, q, ⟨hq, hp⟩, hr.symm⟩

section

variable (s : State) (p : WindowIx → Bool)

theorem State.dissolve_flight : (s.dissolve p).flight = s.flight.map (s.keptMarks p) := rfl

theorem State.dissolve_hazard :
    (s.dissolve p).hazard = s.hazard.filter fun m => ((s.ctx m).parked.filter fun r => !p r.granule.window).isSome := by
  simp only [State.dissolve, State.ctx_mapCtx, State.keptParts]

theorem State.dissolve_released :
    (s.dissolve p).released = s.released.map (Released.toPlain p) ++ s.dissolvedReads p := rfl

@[simp] theorem State.keptMarks_master (f : Flight) : (s.keptMarks p f).master = f.master := by
  unfold State.keptMarks; split <;> rfl

@[simp] theorem State.keptMarks_tag (f : Flight) : (s.keptMarks p f).tag = f.tag := by
  unfold State.keptMarks; split <;> rfl

@[simp] theorem State.keptMarks_range (f : Flight) : (s.keptMarks p f).range = f.range := by
  unfold State.keptMarks; split <;> rfl

@[simp] theorem State.keptMarks_isWrite (f : Flight) : (s.keptMarks p f).isWrite = f.isWrite := by
  unfold State.keptMarks Flight.isWrite
  cases h : f.kind <;> simp [h]

theorem State.keptMarks_armed (f : Flight) : (s.keptMarks p f).armed =
    (f.armed && ((s.ctx f.master).reservation.filter fun g => !p g.window).isSome) := by
  unfold State.keptMarks Flight.armed
  cases h : f.kind <;> simp [h, State.keptParts]

theorem State.keptMarks_holderEntry (f : Flight) : (s.keptMarks p f).holderEntry =
    f.holderEntry.filter fun e => !p (s.entry e).granule.window := by
  unfold State.keptMarks Flight.holderEntry
  cases h : f.kind <;> simp [h]

theorem Released.toPlain_eq (r : Released) : r.toPlain p = if p r.granule.window then { r with mode := .plain } else r := rfl

theorem State.dissolve_covered (g : Granule) : (s.dissolve p).covered g = s.covered g :=
  State.covered_of_map (State.dissolve_windows s p) (State.dissolve_flight s p) (fun f => by simp) (fun f => by simp) g

theorem State.dissolve_active (w : WindowIx) : (s.dissolve p).active w = s.active w := by simp [State.active]

end

/-- A read of mode other than PLAIN after a dissolution waited before, outside the windows dissolved. -/
theorem Agree.mem_dissolve_released {s : State} (hs : Agree s) {p : WindowIx → Bool} {r : Released}
    (hr : r ∈ (s.dissolve p).released) (hmode : r.mode ≠ .plain) : r ∈ s.released ∧ p r.granule.window = false := by
  rw [State.dissolve_released, List.mem_append, List.mem_map] at hr
  obtain ⟨q, hq, rfl⟩ | hr := hr
  · rw [Released.toPlain_eq] at hmode ⊢
    split_ifs at hmode ⊢ with hp
    · exact absurd rfl hmode
    · exact ⟨hq, by simpa using hp⟩
  · obtain ⟨q, -, -, hq⟩ := mem_plainReads.mp ((hs.dissolvedReads_perm p).mem_iff.mp hr)
    rw [hq] at hmode
    exact absurd rfl hmode

/-- A dissolution keeps the laws. -/
theorem Agree.dissolve {s : State} (hs : Agree s) (p : WindowIx → Bool) : Agree (s.dissolve p) := by
  have hentry : ∀ i, (s.dissolve p).entry i = Entry.free ∧ p (s.entry i).granule.window = true ∨
      (s.dissolve p).entry i = s.entry i ∧ p (s.entry i).granule.window = false := fun i => by
    rw [State.dissolve_entry]; split_ifs with h <;> simp [h]
  have hused : ∀ i, ((s.dissolve p).entry i).state ≠ .free → (s.dissolve p).entry i = s.entry i := fun i hi => by
    obtain ⟨h, -⟩ | ⟨h, -⟩ := hentry i
    · rw [h] at hi; exact absurd rfl hi
    · exact h
  have hparked : ∀ m q, ((s.dissolve p).ctx m).parked = some q ↔ (s.ctx m).parked = some q ∧ p q.granule.window = false := by
    intro m q; rw [State.dissolve_ctx]; simp [State.keptParts, Option.filter_eq_some_iff]
  have hres : ∀ m g, ((s.dissolve p).ctx m).reservation = some g ↔ (s.ctx m).reservation = some g ∧ p g.window = false := by
    intro m g; rw [State.dissolve_ctx]; simp [State.keptParts, Option.filter_eq_some_iff]
  have hhold : ∀ m i, ((s.dissolve p).ctx m).holdership = some i ↔
      (s.ctx m).holdership = some i ∧ p (s.entry i).granule.window = false := by
    intro m i; rw [State.dissolve_ctx]; simp [State.keptParts, Option.filter_eq_some_iff]
  have harms : ∀ r ∈ (s.dissolve p).released, r.arms = true → r ∈ s.released ∧ p r.granule.window = false := fun r hr ha =>
    hs.mem_dissolve_released hr (Released.not_plain_of_arms ha)
  have hwin : ∀ w, (s.dissolve p).window w = s.window w := State.dissolve_window s p
  have hact := s.dissolve_active p
  have hcov := s.dissolve_covered p
  have hflight := s.dissolve_flight p
  have hhaz := s.dissolve_hazard p
  have hreleased := fun r => hs.mem_dissolve_released (p := p) (r := r)
  generalize s.dissolve p = u at *
  constructor
  case table => simpa only [TableLegal, hwin] using hs.table
  case reserved => intro m g hg; rw [hact]; exact hs.reserved m g ((hres m g).mp hg).1
  case parkedActive => intro m q hq; rw [hact]; exact hs.parkedActive m q ((hparked m q).mp hq).1
  case releasedActive =>
    intro r hr hm
    rw [hact]
    exact hs.releasedActive r (hreleased r hr hm).1 hm
  case queueNodup =>
    intro i
    obtain ⟨h, -⟩ | ⟨h, -⟩ := hentry i <;> rw [h]
    · exact List.nodup_nil
    · exact hs.queueNodup i
  case queued =>
    intro i m
    have hq := hs.queued i m
    have hon := hs.queuedOn i m
    simp only [hparked]
    obtain ⟨h, hp⟩ | ⟨h, hp⟩ := hentry i <;> rw [h]
    · simp only [Entry.free, List.not_mem_nil, false_iff]; grind
    · grind
  case queuedOn =>
    intro i m q hq hr
    obtain ⟨hq, hp⟩ := (hparked m q).mp hq
    have hon := hs.queuedOn i m q hq hr
    obtain ⟨-, h⟩ | ⟨h, -⟩ := hentry i
    · rw [hon, h] at hp; cases hp
    · rw [h]; exact hon
  case hazardNodup => rw [hhaz]; exact hs.hazardNodup.filter _
  case hazarded =>
    intro m
    rw [hhaz, List.mem_filter, hs.hazarded]
    simp only [hparked, Option.isSome_iff_exists, Option.filter_eq_some_iff]
    grind
  case holders =>
    intro i m
    rw [hhold, ← hs.holders]
    obtain ⟨h, hp⟩ | ⟨h, hp⟩ := hentry i <;> rw [h] <;> simp [hp, Entry.free]
  case waiters =>
    intro m i q hi hq
    obtain ⟨hi, hp⟩ := (hhold m i).mp hi
    obtain ⟨-, h⟩ | ⟨h, -⟩ := hentry i
    · rw [hp] at h; cases h
    · rw [h]; exact hs.waiters m i q hi ((hparked m q).mp hq).1
  case unreserved =>
    intro m q hq
    refine Option.eq_none_iff_forall_ne_some.mpr fun g hg => ?_
    have := hs.unreserved m q ((hparked m q).mp hq).1
    simp [((hres m g).mp hg).1] at this
  case unarmed =>
    intro m q hq r hr hm
    by_contra ha
    exact ha (hs.unarmed m q ((hparked m q).mp hq).1 r (harms r hr (by simpa using ha)).1 hm)
  case law4 =>
    intro i m hi hg
    have h := hused i (Entry.used_of_serving hi)
    rw [h] at hi hg ⊢
    exact hs.law4 i m hi ((hres m _).mp hg).1
  case arming =>
    intro i hi r hr ha hg
    have h := hused i (Entry.used_of_serving hi)
    rw [h] at hi hg ⊢
    exact hs.arming i hi r (harms r hr ha).1 ha hg
  case rereads =>
    intro i m q hi hq hr hg
    have h := hused i (Entry.used_of_serving hi)
    rw [h] at hi hg ⊢
    exact hs.rereads i m q hi ((hparked m q).mp hq).1 hr hg
  case flightNamed =>
    intro f hf i hi
    rw [hflight, List.mem_map] at hf
    obtain ⟨f, hf, rfl⟩ := hf
    rw [State.keptMarks_holderEntry, Option.filter_eq_some_iff] at hi
    have := hs.flightNamed f hf i hi.1
    rw [State.keptMarks_master]
    obtain ⟨-, h⟩ | ⟨h, -⟩ := hentry i
    · simp [h] at hi
    · rw [h]; exact this
  case releasedNamed =>
    intro r hr i hi
    obtain ⟨hr, hp⟩ := harms r hr (Released.arms_of_holderEntry hi)
    have hn := hs.releasedNamed r hr i hi
    obtain ⟨-, h⟩ | ⟨h, -⟩ := hentry i
    · rw [← hn.2, hp] at h; cases h
    · rw [h]; exact hn
  case marks =>
    intro f hf ha
    rw [hflight, List.mem_map] at hf
    obtain ⟨f, hf, rfl⟩ := hf
    rw [State.keptMarks_armed, Bool.and_eq_true, Option.isSome_iff_exists] at ha
    obtain ⟨ha, g, hg⟩ := ha
    rw [Option.filter_eq_some_iff] at hg
    obtain ⟨g', hg', hb⟩ := hs.marks f hf ha
    obtain rfl : g = g' := by simpa [hg.1] using hg'
    exact ⟨g, by rw [State.keptMarks_master, hres]; exact ⟨hg.1, by simpa using hg.2⟩, by simpa using hb⟩
  case oneMark =>
    unfold OneMarkEach
    rw [hflight, List.pairwise_map]
    refine hs.oneMark.imp fun {f g} hfg hf hg => ?_
    rw [State.keptMarks_armed, Bool.and_eq_true] at hf hg
    rw [State.keptMarks_master, State.keptMarks_master]
    exact hfg hf.1 hg.1
  case tracked =>
    intro i j hi hj hg
    have hui := hused i hi
    have huj := hused j hj
    rw [hui] at hi hg
    rw [huj] at hj hg
    exact hs.tracked i j hi hj hg
  case trackedActive => intro i hi; have hui := hused i hi; rw [hui] at hi ⊢; rw [hact]; exact hs.trackedActive i hi
  case trackedAllowed => intro i hi; have hui := hused i hi; rw [hui] at hi ⊢; rw [hwin]; exact hs.trackedAllowed i hi
  case law6 =>
    intro r hr hm
    rw [hcov]
    exact hs.law6 r (hreleased _ hr hm).1 hm
  case law10 =>
    intro i
    obtain ⟨h, -⟩ | ⟨h, -⟩ := hentry i <;> rw [h]
    · simp [Entry.free]
    · exact hs.law10 i

/-- A dissolution moves no tag out or in. -/
theorem Agree.tagCount_dissolve {s : State} (hs : Agree s) (p : WindowIx → Bool) (x : Master × Tag) :
    (s.dissolve p).tagCount x = s.tagCount x := by
  have hcount := count_tags (fun m => (s.ctx m).parked.filter fun r => p r.granule.window) x (List.nodup_finRange 16)
  have hreads : (s.dissolvedReads p).countP (fun r => (r.master, r.tag) == x) =
      if ((s.ctx x.1).parked.filter fun r => p r.granule.window).any (fun q => decide (q.tag = x.2)) = true
        then 1 else 0 := by
    simp only [List.mem_finRange, true_and] at hcount
    rw [(hs.dissolvedReads_perm p).countP_eq, ← hcount, plainReads, masters, List.count, List.countP_filterMap,
      List.countP_filterMap]
    refine List.countP_congr fun m _ => ?_
    cases (s.ctx m).parked.filter fun r => p r.granule.window <;> simp [Parked.release]
  have hold : ∀ r : Released, (r.toPlain p).master = r.master ∧ (r.toPlain p).tag = r.tag := fun r => by
    rw [Released.toPlain_eq]; split_ifs <;> simp
  simp only [State.tagCount, State.dissolve_flight, State.dissolve_released, List.countP_append, hreads, State.dissolve_ctx,
    State.keptParts, List.countP_map, Function.comp_def, State.keptMarks_master, State.keptMarks_tag, hold]
  cases (s.ctx x.1).parked with
  | none => simp
  | some q => cases hp : p q.granule.window <;> by_cases ht : q.tag = x.2 <;> (simp [Option.filter, hp, ht]; try omega)

/-- A dissolution keeps everything. -/
theorem State.kept_dissolve {s : State} (hs : Agree s) (p : WindowIx → Bool) : Kept nowhere s (s.dissolve p) where
  agree := hs.dissolve p
  tenure i hi := by
    rw [State.dissolve_entry]; split_ifs
    · exact ⟨fun _ => rfl, fun h => absurd rfl h⟩
    · exact hi
  drain i _ hi := by
    rw [State.dissolve_entry]; split_ifs
    · exact fun h => by simp [Entry.free] at h
    · exact hi
  waits i _ hi := by
    unfold State.WaitOk
    rw [State.dissolve_entry, State.dissolve_covered]; split_ifs
    · exact fun h => absurd rfl h
    · exact hi
  hazards hh m hm q hq := by
    rw [State.dissolve_hazard] at hm
    rw [State.dissolve_covered]
    rw [State.dissolve_ctx] at hq
    exact hh m (List.mem_of_mem_filter hm) q (Option.filter_eq_some_iff.mp hq).1
  tags x := (hs.tagCount_dissolve p x).le

end Sys2Proof.Machine
end

section
/-! SUPPORT. The timebase keeps the laws: sample-period expiries entry by entry, tenure units, tenure expiries. -/

namespace Sys2Proof.Machine

open Sys2Proof.Safety Sys2Proof.Claim

theorem Kept.mono {except more : EntryIx → Prop} {s u : State} (h : Kept except s u) (hm : ∀ i, except i → more i) :
    Kept more s u :=
  ⟨h.toKeptLaws.mono hm, h.tags⟩

/-- What every step of a fold keeps, the fold keeps. -/
theorem Kept.foldl {α : Type} {f : State → α → State} (hf : ∀ s a, Agree s → Kept nowhere s (f s a)) (l : List α)
    {s : State} (hs : Agree s) : Kept nowhere s (l.foldl f s) := by
  induction l generalizing s with
  | nil => exact Kept.refl hs _
  | cons a l ih => exact (hf s a hs).trans (ih (hf s a hs).agree)

theorem State.updEntry_updEntry (s : State) (e : EntryIx) (f g : Entry → Entry) :
    (s.updEntry e f).updEntry e g = s.updEntry e fun x => g (f x) := by
  apply State.ext
  case entry => intro i; simp only [State.entry_updEntry]; split_ifs <;> rfl
  all_goals simp

/-! The processing of one entry. -/

@[simp] theorem Entry.sampled_state (x : Entry) (w : Window) : (x.sampled w).state = x.state := rfl
@[simp] theorem Entry.sampled_granule (x : Entry) (w : Window) : (x.sampled w).granule = x.granule := rfl
@[simp] theorem Entry.sampled_holder (x : Entry) (w : Window) : (x.sampled w).holder = x.holder := rfl
@[simp] theorem Entry.sampled_tenure (x : Entry) (w : Window) : (x.sampled w).tenure = x.tenure := rfl
@[simp] theorem Entry.sampled_queue (x : Entry) (w : Window) : (x.sampled w).queue = x.queue := rfl
@[simp] theorem Entry.sampled_serving (x : Entry) (w : Window) : (x.sampled w).serving = x.serving := rfl

/-- A WATCH entry turns hot: it is QUEUED, and the reservations, marks and arming modes on its granule are cleared (R35,
R86). -/
def State.turnHot (s : State) (e : EntryIx) : State :=
  ((s.updEntry e fun _ => { sampledNow s e with state := .queued }).clearReservations fun m =>
    decide ((s.ctx m).reservation = some (s.entry e).granule)).disarmGranule (s.entry e).granule

/-- The entry that turns hot takes its granule over: the hazard reads on it join the queue (R35, R67). -/
def State.takeOver (s : State) (e : EntryIx) : State := (s.turnHot e).hazardToQueue e fun _ => true

section

variable (s : State) (e : EntryIx)

theorem State.processEntry_free (h : (s.entry e).state = .free) : s.processEntry e = s := by
  simp only [State.processEntry, h]

theorem State.processEntry_hot (h : (s.entry e).state = .watch) (hhot : (sampledNow s e).hot = true) :
    s.processEntry e = ((s.takeOver e).notify (.granuleHot e (s.entry e).granule)).attemptGrant e := by
  unfold sampledNow at hhot
  simp only [State.processEntry, h, hhot, if_true, State.enterQueued, State.takeOver, State.turnHot, State.updEntry_updEntry,
    State.entry_updEntry, State.updEntry_ctx, sampledNow, Entry.sampled_granule]

theorem State.processEntry_retire (h : retiresNow s e) : s.processEntry e = s.updEntry e fun _ => Entry.free := by
  obtain ⟨hw, hh, hf, hv, hc⟩ := h
  unfold sampledNow at hh hf hv
  simp [State.processEntry, hw, hh, Entry.retires, hf, hv, hc]

theorem State.processEntry_watch (h : (s.entry e).state = .watch) (hcool : (sampledNow s e).hot = false)
    (hr : ¬ retiresNow s e) : s.processEntry e = s.updEntry e fun _ => sampledNow s e := by
  have hn : (s.entry e).retires (sampledNow s e) = false := by
    rw [Bool.eq_false_iff]
    intro hret
    simp only [Entry.retires, Bool.and_eq_true, decide_eq_true_eq] at hret
    exact hr ⟨h, hcool, hret.1.1, hret.1.2, hret.2⟩
  unfold sampledNow at *
  simp [State.processEntry, h, hcool, hn]

theorem State.processEntry_queued (h : (s.entry e).state = .queued) (hhot : (sampledNow s e).hot = true) :
    s.processEntry e = s.updEntry e fun _ => sampledNow s e := by
  unfold sampledNow at *
  simp only [State.processEntry, h, hhot, if_true]

theorem State.processEntry_toDrain (h : (s.entry e).state = .queued) (hcool : (sampledNow s e).hot = false)
    (hserves : (s.entry e).holder ≠ none ∨ (s.entry e).queue ≠ []) :
    s.processEntry e = s.updEntry e fun _ => { sampledNow s e with state := .drain } := by
  have hb : ((s.entry e).holder.isSome || !(s.entry e).queue.isEmpty) = true := by
    simpa [Option.isSome_iff_ne_none] using hserves
  unfold sampledNow at *
  simp [State.processEntry, h, hcool, State.leaveQueued, hb, State.updEntry_updEntry]

theorem State.processEntry_cool (h : (s.entry e).state = .queued) (hcool : (sampledNow s e).hot = false)
    (hholder : (s.entry e).holder = none) (hqueue : (s.entry e).queue = []) :
    s.processEntry e = (s.updEntry e fun _ => { sampledNow s e with state := .watch }).notify
      (.granuleCool e (s.entry e).granule) := by
  unfold sampledNow at *
  simp [State.processEntry, h, hcool, State.leaveQueued, hholder, hqueue, State.updEntry_updEntry]

theorem State.processEntry_reheat (h : (s.entry e).state = .drain) (hhot : (sampledNow s e).hot = true) :
    s.processEntry e = s.updEntry e fun _ => { sampledNow s e with state := .queued } := by
  unfold sampledNow at *
  simp only [State.processEntry, h, hhot, if_true, State.updEntry_updEntry]

theorem State.processEntry_drain (h : (s.entry e).state = .drain) (hcool : (sampledNow s e).hot = false) :
    s.processEntry e = s.updEntry e fun _ => sampledNow s e := by
  unfold sampledNow at *
  simp [State.processEntry, h, hcool]

end

section

variable (s : State) (e : EntryIx)

theorem State.turnHot_ctx (m : Master) :
    (s.turnHot e).ctx m =
      if (s.ctx m).reservation = some (s.entry e).granule then { s.ctx m with reservation := none } else s.ctx m := by
  simp only [State.turnHot, State.disarmGranule_ctx, State.clearReservations_ctx, State.updEntry_ctx, decide_eq_true_eq]

@[simp] theorem State.turnHot_parked (m : Master) : ((s.turnHot e).ctx m).parked = (s.ctx m).parked := by
  rw [State.turnHot_ctx]; split_ifs <;> rfl

@[simp] theorem State.turnHot_holdership (m : Master) : ((s.turnHot e).ctx m).holdership = (s.ctx m).holdership := by
  rw [State.turnHot_ctx]; split_ifs <;> rfl

theorem State.turnHot_entry (i : EntryIx) :
    (s.turnHot e).entry i = if i = e then { sampledNow s e with state := .queued } else s.entry i := by
  simp only [State.turnHot, State.disarmGranule_entry, State.clearReservations_entry, State.entry_updEntry]

@[simp] theorem State.turnHot_granule (i : EntryIx) : ((s.turnHot e).entry i).granule = (s.entry i).granule := by
  rw [State.turnHot_entry]
  split_ifs with h
  · rw [h]; rfl
  · rfl

@[simp] theorem State.turnHot_hazard : (s.turnHot e).hazard = s.hazard := by simp [State.turnHot]

@[simp] theorem State.turnHot_parkedOn (m : Master) (g : Granule) : (s.turnHot e).parkedOn m g = s.parkedOn m g := by
  simp only [State.parkedOn, State.turnHot_parked]

theorem State.takeOver_ctx (m : Master) :
    (s.takeOver e).ctx m = if m ∈ s.hazard ∧ s.parkedOn m (s.entry e).granule = true
      then { (s.turnHot e).ctx m with parked := (s.ctx m).parked.map fun p => { p with reason := .queue e } }
      else (s.turnHot e).ctx m := by
  simp [State.takeOver, State.hazardToQueue_ctx]

theorem State.takeOver_entry (i : EntryIx) :
    (s.takeOver e).entry i = if i = e then
      { sampledNow s e with
        state := .queued
        queue := (s.entry e).queue ++ s.hazard.filter fun m => s.parkedOn m (s.entry e).granule }
      else s.entry i := by
  simp only [State.takeOver, State.hazardToQueue_entry, State.turnHot_entry, State.turnHot_hazard, State.turnHot_parkedOn,
    Bool.true_and]
  split_ifs with h
  · subst h; rfl
  · rfl

theorem State.takeOver_hazard :
    (s.takeOver e).hazard = s.hazard.filter fun m => !s.parkedOn m (s.entry e).granule := by
  simp [State.takeOver, State.hazardToQueue_hazard]

theorem State.takeOver_flight :
    (s.takeOver e).flight =
      s.flight.map (Flight.unmark fun m => decide ((s.ctx m).reservation = some (s.entry e).granule)) := by
  simp [State.takeOver, State.turnHot]

theorem State.takeOver_released :
    (s.takeOver e).released =
      (s.released.map (Released.disarm fun r => decide ((s.ctx r.master).reservation = some (s.entry e).granule))).map
        (Released.disarm fun r => decide (r.granule = (s.entry e).granule)) := by
  simp [State.takeOver, State.turnHot, State.disarmGranule]

/-- The records without those that a take-over clears. -/
def State.freedGranule : State :=
  (s.clearReservations fun m => decide ((s.ctx m).reservation = some (s.entry e).granule)).disarmGranule (s.entry e).granule

theorem State.loosened_freedGranule : Loosened s (s.freedGranule e) :=
  (s.loosened_clearReservations _).trans (State.loosened_disarmGranule _ _)

theorem State.freedGranule_ctx (m : Master) : (s.freedGranule e).ctx m = (s.turnHot e).ctx m := by
  rw [State.turnHot_ctx, State.freedGranule, State.disarmGranule_ctx, State.clearReservations_ctx]
  simp only [decide_eq_true_eq]

end

section

variable {s : State} (hs : Agree s) {e : EntryIx} (hwatch : (s.entry e).state = .watch)
include hs hwatch

/-- The take-over is the move of the hazard reads to the queue of an entry without holder. -/
theorem Agree.requeued_takeOver (hhot : (sampledNow s e).hot = true) : Requeued (s.freedGranule e) e (s.takeOver e) := by
  have hl := s.loosened_freedGranule e
  obtain ⟨hholder, hqueue, -⟩ := (hs.law10 e).2.1 hwatch
  have hpark : ∀ m g, (s.freedGranule e).parkedOn m g = s.parkedOn m g := fun m g => by simp only [State.parkedOn, hl.parked]
  have hnone : ∀ m, (s.ctx m).holdership ≠ some e := fun m h => by
    rw [← hs.holders, hholder] at h; cases h
  have hself := s.takeOver_entry e e
  rw [if_pos rfl] at hself
  constructor
  case windows => simp [State.takeOver, State.turnHot, hl.windows]
  case mon => simp [State.takeOver, State.turnHot, hl.mon]
  case flight => rw [State.takeOver_flight]; simp [State.freedGranule]
  case released => rw [State.takeOver_released]; simp [State.freedGranule, State.disarmGranule]
  case hazard => rw [State.takeOver_hazard]; simp only [hpark, hl.hazard, hl.entry]
  case reservation => intro m; rw [State.takeOver_ctx, State.freedGranule_ctx]; split_ifs <;> rfl
  case parked =>
    intro m
    rw [State.takeOver_ctx, hl.parked, hl.entry]
    simp only [hs.hazarded, State.parkedOn_iff]
    cases hp : (s.ctx m).parked with
    | none => simp [hp]
    | some p => by_cases hr : p.reason = .hazard <;> by_cases hg : p.granule = (s.entry e).granule <;> simp [hp, hr, hg]
  case holdership => intro m; rw [State.takeOver_ctx, hl.holdership, if_neg (hnone m)]; split_ifs <;> simp
  case others => intro i hi; rw [State.takeOver_entry, if_neg hi, hl.entry]
  case granule => rw [hself, hl.entry]; rfl
  case holder => rw [hself]; exact hholder
  case queue => rw [hself]; simp only [hpark, hl.hazard, hl.entry]
  case serving => rw [hself]; rfl
  case hot => rw [hself]; exact ⟨fun _ => hhot, fun h => by cases h⟩

/-- The take-over keeps the laws. -/
theorem Agree.takeOver (hhot : (sampledNow s e).hot = true) : Agree (s.takeOver e) := by
  have hl := s.loosened_freedGranule e
  obtain ⟨hholder, hqueue, -⟩ := (hs.law10 e).2.1 hwatch
  refine (hs.requeued_takeOver hwatch hhot).agree (hl.agree hs) (by rw [hl.entry, hwatch]; decide) ?_ ?_ ?_
  · intro m hm
    rw [hl.entry, State.freedGranule_ctx, State.turnHot_ctx] at hm
    split_ifs at hm with h
    exact h hm
  · intro f hf he
    obtain ⟨f', hf', hlf⟩ := hl.mem_flight hf
    have := hs.flightNamed f' hf' e (by have := hlf.holderEntry; grind)
    rw [hholder] at this
    cases this
  · intro r hr ha hg
    rw [hl.entry] at hg
    obtain ⟨q, -, rfl⟩ := List.mem_map.mp hr
    simp only [Released.disarm_arms, Released.disarm_granule] at ha hg
    simp [hg] at ha

/-- The entry into QUEUED keeps everything. -/
theorem Agree.kept_processEntry_hot (hhot : (sampledNow s e).hot = true) : Kept nowhere s (s.processEntry e) := by
  have hl := s.loosened_freedGranule e
  have hq := hs.requeued_takeOver hwatch hhot
  have ht := hs.takeOver hwatch hhot
  have hn := (s.takeOver e).notify_sameRecords (.granuleHot e (s.entry e).granule)
  rw [State.processEntry_hot s e hwatch hhot]
  generalize (s.takeOver e).notify (.granuleHot e (s.entry e).granule) = u at hn
  have hu := hn.kept ht
  have hself := s.takeOver_entry e e
  rw [if_pos rfl] at hself
  have hto : Kept (· = e) s (s.takeOver e) := {
    agree := ht
    tenure := fun i hi => by
      rw [State.takeOver_entry]
      split_ifs with h
      · subst h; exact hi
      · exact hi
    drain := fun i hi h => by rw [State.takeOver_entry, if_neg hi]; exact h
    waits := fun i hi h => by
      unfold State.WaitOk
      rw [hq.covered, hl.covered, State.takeOver_entry, if_neg hi]
      exact h
    hazards := fun h => hq.hazardsOk ((hl.kept hs).hazards h)
    tags := fun x => (hq.tagCount x).le.trans (hl.tagCount x).le }
  have hg := u.kept_attemptGrant hu.agree e
  have hall := hto.trans ((hu.trans hg).mono fun i hi => hi.elim)
  exact {
    agree := hall.agree
    tenure := hall.tenure
    hazards := hall.hazards
    tags := hall.tags
    drain := fun i _ hi => by
      by_cases hie : i = e
      · refine (hu.trans hg).drain i id ?_
        rw [hie, hself]
        exact fun h => by cases h
      · exact hall.drain i hie hi
    waits := fun i _ hi => by
      by_cases hie : i = e
      · subst hie; exact u.waitOk_attemptGrant hu.agree i
      · exact hall.waits i hie hi }

end

/-- The replacement of an entry at an expiry by one with the same holder, tenure, queue and granule keeps everything. -/
theorem Agree.kept_sampled {s : State} (hs : Agree s) {e : EntryIx} {y : Entry} (hy : (s.entry e).state ≠ .free)
    (hholder : y.holder = (s.entry e).holder) (htenure : y.tenure = (s.entry e).tenure)
    (hqueue : y.queue = (s.entry e).queue) (hgranule : y.granule = (s.entry e).granule)
    (hserving : y.serving = true → (s.entry e).serving = true) (hok : y.StateOk) (hdrain : (s.entry e).DrainOk → y.DrainOk) :
    Kept nowhere s (s.updEntry e fun _ => y) := by
  refine (s.retabled_updEntry e (fun _ => y) hholder hqueue hserving fun _ => hgranule).kept hs
    (hs.law5_updEntry e _ fun _ => ⟨hy, hgranule⟩) (hs.law10_updEntry e _ hok) (fun i hi => ?_) (fun i _ hi => ?_)
  · rw [State.entry_updEntry]
    split_ifs with h
    · subst h; unfold Entry.TenureOk; rw [hholder, htenure]; exact hi
    · exact hi
  · rw [State.entry_updEntry]
    split_ifs with h
    · subst h; exact hdrain hi
    · exact hi

/-- The retirement of a WATCH entry keeps everything. -/
theorem Agree.kept_retire {s : State} (hs : Agree s) {e : EntryIx} (hwatch : (s.entry e).state = .watch) :
    Kept nowhere s (s.updEntry e fun _ => Entry.free) := by
  obtain ⟨hholder, hqueue, -⟩ := (hs.law10 e).2.1 hwatch
  refine (s.retabled_updEntry e _ hholder.symm hqueue.symm (fun h => by cases h) fun h => ?_).kept hs
    (hs.law5_updEntry e _ fun h => absurd rfl h) (hs.law10_updEntry e _ ⟨fun _ => rfl, by simp [Entry.free],
      by simp [Entry.free], by simp [Entry.free]⟩)
    (fun i hi => State.forall_updEntry (fun _ => ⟨fun _ => rfl, fun h => absurd rfl h⟩) i hi)
    (fun i _ hi => State.forall_updEntry (fun _ h => by cases h) i hi)
  simp [Entry.serving, hwatch] at h

/-- The processing of one entry at an expiry keeps everything. -/
theorem State.kept_processEntry {s : State} (hs : Agree s) (e : EntryIx) : Kept nowhere s (s.processEntry e) := by
  obtain ⟨-, hw, -, -⟩ := hs.law10 e
  have hy : (sampledNow s e).state = (s.entry e).state := rfl
  cases hstate : (s.entry e).state with
  | free => rw [State.processEntry_free s e hstate]; exact Kept.refl hs _
  | watch =>
    obtain ⟨hholder, hqueue, -⟩ := hw hstate
    cases hhot : (sampledNow s e).hot with
    | true => exact hs.kept_processEntry_hot hstate hhot
    | false =>
      by_cases hr : retiresNow s e
      · rw [State.processEntry_retire s e hr]
        exact hs.kept_retire hstate
      · rw [State.processEntry_watch s e hstate hhot hr]
        exact hs.kept_sampled (by simp [hstate]) rfl rfl rfl rfl id ⟨by simp [hy, hstate], fun _ => ⟨hholder, hqueue, hhot⟩,
          by simp [hy, hstate], by simp [hy, hstate]⟩ fun _ => by simp [Entry.DrainOk, hy, hstate]
  | queued =>
    have hserv : (s.entry e).serving = true := (Entry.serving_iff _).mpr (.inl hstate)
    cases hhot : (sampledNow s e).hot with
    | true =>
      rw [State.processEntry_queued s e hstate hhot]
      exact hs.kept_sampled (by simp [hstate]) rfl rfl rfl rfl id ⟨by simp [hy, hstate], by simp [hy, hstate],
        fun _ => hhot, by simp [hy, hstate]⟩ fun _ => by simp [Entry.DrainOk, hy, hstate]
    | false =>
      by_cases hserves : (s.entry e).holder ≠ none ∨ (s.entry e).queue ≠ []
      · rw [State.processEntry_toDrain s e hstate hhot hserves]
        exact hs.kept_sampled (by simp [hstate]) rfl rfl rfl rfl (fun _ => hserv) ⟨by simp, by simp, by simp, fun _ => hhot⟩
          fun _ _ => hserves
      · push Not at hserves
        rw [State.processEntry_cool s e hstate hhot hserves.1 hserves.2]
        have hk : Kept nowhere s (s.updEntry e fun _ => { sampledNow s e with state := .watch }) :=
          hs.kept_sampled (by simp [hstate]) rfl rfl rfl rfl (fun h => by simp [Entry.serving] at h)
            ⟨by simp, fun _ => ⟨hserves.1, hserves.2, hhot⟩, by simp, by simp⟩ fun _ => by simp [Entry.DrainOk]
        exact hk.trans ((State.notify_sameRecords _ _).kept hk.agree)
  | drain =>
    have hserv : (s.entry e).serving = true := (Entry.serving_iff _).mpr (.inr hstate)
    cases hhot : (sampledNow s e).hot with
    | true =>
      rw [State.processEntry_reheat s e hstate hhot]
      exact hs.kept_sampled (by simp [hstate]) rfl rfl rfl rfl (fun _ => hserv) ⟨by simp, by simp, fun _ => hhot, by simp⟩
        fun _ => by simp [Entry.DrainOk]
    | false =>
      rw [State.processEntry_drain s e hstate hhot]
      exact hs.kept_sampled (by simp [hstate]) rfl rfl rfl rfl id ⟨by simp [hy, hstate], by simp [hy, hstate],
        by simp [hy, hstate], fun _ => hhot⟩ id

/-- A sample-period expiry keeps everything. -/
theorem State.kept_expire {s : State} (hs : Agree s) : Kept nowhere s s.expire := by
  have hsame : SameRecords s { s with
      sampleTimer := 0, sampleLength := Config.samplePeriod s.sampleCode, atExpiry := true } := by constructor <;> rfl
  have hk := hsame.kept hs
  exact hk.trans (Kept.foldl (fun s e hs => s.kept_processEntry hs e) entryIxs hk.agree)

/-! Tenure. -/

section

variable {s : State} (hs : Agree s) (e : EntryIx)
include hs

/-- A tenure expiry keeps everything. -/
theorem Agree.kept_expireTenure : Kept nowhere s (s.expireTenure e) := by
  unfold State.expireTenure
  split
  · exact Kept.refl hs _
  · have hend := State.kept_endHolding hs e
    exact State.kept_settle (hend.trans (((State.notify_sameRecords _ _).kept hend.agree).mono fun i hi => hi.elim))

omit hs in
/-- A tenure expiry leaves the other entries. -/
theorem State.expireTenure_entry_of_ne {i : EntryIx} (hi : i ≠ e) : (s.expireTenure e).entry i = s.entry i := by
  unfold State.expireTenure
  split
  · rfl
  next m h => rw [State.settle_entry_of_ne _ hi, State.notify_entry, State.endHolding_entry h, if_neg hi]

/-- After a tenure expiry the tenure of the entry is right again. -/
theorem Agree.tenureOk_expireTenure (hnone : (s.entry e).holder = none → (s.entry e).tenure = 0) :
    ((s.expireTenure e).entry e).TenureOk := by
  unfold State.expireTenure
  split
  next h => exact ⟨fun _ => hnone h, fun hne => absurd h hne⟩
  next m h =>
    have hend := State.kept_endHolding hs e
    have hk := State.kept_settle (Kept.refl (hend.trans (((State.notify_sameRecords _
      (.tenureExpired m e (s.entry e).granule.base)).kept hend.agree).mono fun i hi => hi.elim)).agree (· = e))
    refine hk.tenure e ?_
    rw [State.notify_entry, State.endHolding_entry h, if_pos rfl]
    exact ⟨fun _ => rfl, fun h => absurd rfl h⟩

end

/-! Tenure units. -/

theorem mem_insertByRank {rank : EntryIx → Nat} {e i : EntryIx} {l : List EntryIx} :
    i ∈ insertByRank rank e l ↔ i = e ∨ i ∈ l := by
  induction l with
  | nil => simp [insertByRank]
  | cons x l ih =>
    unfold insertByRank
    split_ifs
    · simp
    · rw [List.mem_cons, ih, List.mem_cons]; tauto

/-- Ordering by rank keeps the entries. -/
theorem mem_orderByRank {rank : EntryIx → Nat} {i : EntryIx} {l : List EntryIx} : i ∈ orderByRank rank l ↔ i ∈ l := by
  have hfold : ∀ acc, i ∈ l.foldl (fun acc e => insertByRank rank e acc) acc ↔ i ∈ acc ∨ i ∈ l := by
    induction l with
    | nil => simp
    | cons x l ih => intro acc; rw [List.foldl_cons, ih, mem_insertByRank, List.mem_cons]; tauto
  unfold orderByRank
  rw [hfold]
  simp

/-- The entries that expire at a tenure unit, in the order of the free value. -/
def State.due (s : State) : List EntryIx :=
  orderByRank (Config.expiryRank s.draws) (entryIxs.filter fun e => (s.entry e).expiring)

theorem State.mem_due {s : State} {e : EntryIx} : e ∈ s.due ↔ dueNow s e := by
  rw [State.due, mem_orderByRank, List.mem_filter]
  simp [entryIxs, Entry.expiring, dueNow, Option.isSome_iff_ne_none]

/-- The countdown of a tenure unit, before its expiries. -/
def State.countdown (s : State) : State :=
  { s.mapEntries (fun _ x => if x.holder.isSome then { x with tenure := x.tenure - 1 } else x) with
    unitCounter := 0, draws := s.draws + 1 }

theorem State.unit_eq (s : State) : s.unit = s.due.foldl State.expireTenure s.countdown := by
  simp only [State.unit, State.due, State.countdown, State.mapEntries_draws]

theorem State.countdown_entry (s : State) (e : EntryIx) :
    s.countdown.entry e =
      if (s.entry e).holder.isSome then { s.entry e with tenure := (s.entry e).tenure - 1 } else s.entry e := by
  rw [State.countdown, State.entry_mk, State.contention_getElem, State.entry_mapEntries]

theorem State.retabled_countdown (s : State) : Retabled s s.countdown := by
  constructor
  case holder => intro i; rw [State.countdown_entry]; split_ifs <;> rfl
  case queue => intro i; rw [State.countdown_entry]; split_ifs <;> rfl
  case serving => intro i; rw [State.countdown_entry]; split_ifs <;> exact id
  case granule => intro i _; rw [State.countdown_entry]; split_ifs <;> rfl
  all_goals simp [State.countdown]

/-- The expiries of a list of entries set their tenures right. -/
theorem Agree.tenureOk_expiries {l : List EntryIx} {s : State} (hs : Agree s)
    (hnone : ∀ i, (s.entry i).holder = none → (s.entry i).tenure = 0) (hothers : ∀ i, i ∉ l → (s.entry i).TenureOk)
    (i : EntryIx) : ((l.foldl State.expireTenure s).entry i).TenureOk := by
  induction l generalizing s with
  | nil => exact hothers i (by simp)
  | cons e l ih =>
    have hown := hs.tenureOk_expireTenure e (hnone e)
    refine ih (hs.kept_expireTenure e).agree (fun k hk => ?_) (fun k hk => ?_)
    all_goals by_cases hke : k = e
    · subst hke; exact hown.1 hk
    · rw [s.expireTenure_entry_of_ne e hke] at hk ⊢; exact hnone k hk
    · subst hke; exact hown
    · rw [s.expireTenure_entry_of_ne e hke]; exact hothers k (by simp [hke, hk])

section

variable {s : State} (hs : Agree s)

theorem State.countdown_fields (i : EntryIx) :
    (s.countdown.entry i).state = (s.entry i).state ∧ (s.countdown.entry i).granule = (s.entry i).granule ∧
      (s.countdown.entry i).hot = (s.entry i).hot := by
  rw [State.countdown_entry]; split_ifs <;> simp

include hs in
/-- The countdown keeps the laws. -/
theorem Agree.countdown : Agree s.countdown := by
  have hr := s.retabled_countdown
  refine hr.agree hs (hr.law5 hs fun i hi => ?_) fun i => ?_
  all_goals obtain ⟨hstate, hgranule, hhot⟩ := s.countdown_fields i
  · exact ⟨hstate ▸ hi, hgranule⟩
  · have h := hs.law10 i
    rw [hstate, hr.holder, hr.queue, hhot]
    refine ⟨fun hf => ?_, h.2⟩
    rw [State.countdown_entry, h.1 hf]
    rfl

/-- An entry that a tenure unit does not bring to 0 keeps its tenure right. -/
theorem State.tenureOk_countdown {k : EntryIx} (hk : (s.entry k).TenureOk) (hdue : ¬ dueNow s k) :
    (s.countdown.entry k).TenureOk := by
  rw [State.countdown_entry]
  split_ifs with hh
  · rw [Option.isSome_iff_ne_none] at hh
    obtain ⟨h1, h2⟩ := hk.2 hh
    have hmore : ¬ (s.entry k).tenure ≤ 1 := fun h1 => hdue ⟨hh, h1⟩
    refine ⟨fun h => absurd h hh, fun _ => ?_⟩
    dsimp only
    omega
  · exact hk

/-- The countdown keeps all but tenures. -/
theorem State.kept_of_countdown {u : State} (hu : Kept nowhere s.countdown u) (htenure : ∀ i, (u.entry i).TenureOk) :
    Kept nowhere s u := by
  have hr := s.retabled_countdown
  have hfields := s.countdown_fields
  have htags : ∀ x, s.countdown.tagCount x = s.tagCount x := fun x => by
    simp only [State.tagCount, hr.flight, hr.released, hr.ctx]
  generalize s.countdown = t at *
  have hdrain : ∀ i, (s.entry i).DrainOk → (t.entry i).DrainOk := fun i hi hd => by
    rw [hr.holder, hr.queue]
    exact hi ((hfields i).1 ▸ hd)
  have hwaits : ∀ i, s.WaitOk i → t.WaitOk i := fun i hi hq hn => by
    rw [hr.queue] at hq
    rw [hr.holder] at hn
    rw [hr.covered, (hfields i).2.1]
    exact hi hq hn
  have hhazards : s.HazardsOk → t.HazardsOk := by
    simp only [State.HazardsOk, hr.hazard, hr.ctx, hr.covered]; exact id
  exact ⟨⟨hu.agree, fun i _ => htenure i, fun i hx hi => hu.drain i hx (hdrain i hi),
    fun i hx hi => hu.waits i hx (hwaits i hi), fun hh => hu.hazards (hhazards hh)⟩,
    fun x => (hu.tags x).trans (htags x).le⟩

include hs in
/-- A tenure unit keeps everything. -/
theorem Agree.kept_unit (htenure : ∀ i, (s.entry i).TenureOk) : Kept nowhere s s.unit := by
  have hr := s.retabled_countdown
  rw [State.unit_eq]
  refine State.kept_of_countdown (Kept.foldl (fun s e hs => hs.kept_expireTenure e) s.due hs.countdown)
    (hs.countdown.tenureOk_expiries (fun k hk => ?_) fun k hk => ?_)
  · rw [hr.holder] at hk
    rw [State.countdown_entry, if_neg (by simp [hk])]
    exact (htenure k).1 hk
  · exact State.tenureOk_countdown (htenure k) (by rwa [State.mem_due] at hk)

end

end Sys2Proof.Machine
end

section
/-! SUPPORT. The near port keeps the laws: acceptances by disposition, and withdrawals. -/

namespace Sys2Proof.Machine

open Sys2Proof.Safety Sys2Proof.Claim

theorem State.enqueue_sameRecords (s : State) (m : Master) (t : Tag) (st : ReplyStatus) : SameRecords s (s.enqueue m t st) := by
  constructor <;> rfl

theorem State.setNomon_sameRecords (s : State) (m : Master) (t : Tag) (b : Bool) : SameRecords s (s.setNomon m t b) := by
  constructor <;> simp

theorem State.quiet_sameRecords (s : State) : SameRecords s s.quiet := by constructor <;> rfl

theorem State.took_sameRecords (s : State) : SameRecords s s.took := by constructor <;> rfl

/-! What the disposition of a request says. -/

/-- The master does not wait in the entry's stead: every entry in QUEUED or DRAIN on the granule is held by the master. -/
def holdsServing (s : State) (m : Master) (g : Granule) : Prop :=
  ∀ e, (s.entry e).serving = true → (s.entry e).granule = g → (s.entry e).holder = some m

section

variable {s : State} (hs : Agree s)
include hs

theorem Agree.law5 : EntriesTrack s := ⟨hs.tracked, fun e he => ⟨hs.trackedActive e he, hs.trackedAllowed e he⟩⟩

theorem Agree.servingEntry_eq_none_iff {g : Granule} :
    s.servingEntry g = none ↔ ∀ e, (s.entry e).serving = true → (s.entry e).granule ≠ g := by
  rw [Option.eq_none_iff_forall_ne_some]
  refine forall_congr' fun e => ?_
  rw [Ne, State.servingEntry_eq_some_iff hs.law5]
  tauto

/-- A linked read that is forwarded meets no write in flight and no other holder. -/
theorem Agree.judgeRead_forward {m : Master} {g g' : Granule} {h : Option EntryIx}
    (hj : s.judgeRead m g = .forwardLinked g' h) :
    g' = g ∧ s.covered g = false ∧ holdsServing s m g ∧
      ∀ e, h = some e → (s.entry e).holder = some m ∧ (s.entry e).granule = g := by
  unfold State.judgeRead at hj
  split at hj
  next e he =>
    rw [State.servingEntry_eq_some_iff hs.law5] at he
    split_ifs at hj with hh hc
    cases hj
    refine ⟨rfl, by simpa using hc, fun i hi hg => ?_, fun i hi => ?_⟩
    · rw [hs.tracked i e (Entry.used_of_serving hi) (Entry.used_of_serving he.1) (hg.trans he.2.symm)]; exact hh
    · cases hi; exact ⟨hh, he.2⟩
  next hn =>
    split_ifs at hj with hc
    cases hj
    exact ⟨rfl, by simpa using hc, fun i hi hg => absurd hg (hs.servingEntry_eq_none_iff.mp hn i hi),
      fun i hi => hs.heldEntry_eq_some_iff.mp hi⟩

/-- A linked read parked in the hazard list meets a write in flight and no other holder. -/
theorem Agree.judgeRead_hazard {m : Master} {g g' : Granule} (hj : s.judgeRead m g = .parkHazard g') :
    g' = g ∧ s.covered g = true ∧ holdsServing s m g := by
  unfold State.judgeRead at hj
  split at hj
  next e he =>
    rw [State.servingEntry_eq_some_iff hs.law5] at he
    split_ifs at hj with hh hc
    cases hj
    refine ⟨rfl, hc, fun i hi hg => ?_⟩
    rw [hs.tracked i e (Entry.used_of_serving hi) (Entry.used_of_serving he.1) (hg.trans he.2.symm)]; exact hh
  next hn =>
    split_ifs at hj with hc
    cases hj
    exact ⟨rfl, hc, fun i hi hg => absurd hg (hs.servingEntry_eq_none_iff.mp hn i hi)⟩

/-- A linked read that joins a queue meets an entry in QUEUED or DRAIN that it does not hold. -/
theorem Agree.judgeRead_queue {m : Master} {g g' : Granule} {e : EntryIx} (hj : s.judgeRead m g = .joinQueue g' e) :
    g' = g ∧ (s.entry e).serving = true ∧ (s.entry e).granule = g ∧ (s.entry e).holder ≠ some m := by
  unfold State.judgeRead at hj
  split at hj
  next e he =>
    rw [State.servingEntry_eq_some_iff hs.law5] at he
    split_ifs at hj with hh
    cases hj
    exact ⟨rfl, he.1, he.2, hh⟩
  next hn => split_ifs at hj

end

/-- A request that fails no check brings a tag that no record holds. -/
theorem State.tagCount_of_refusal {s : State} {r : Request} (h : s.refusal r = none) : s.tagCount (r.master, r.tag) = 0 := by
  have hdup := (refusalFollowsCheckOrder s r).2.mp h .dupTag
  simp only [fails, not_or, not_exists, not_and] at hdup
  obtain ⟨hf, hp, hr⟩ := hdup
  have h1 : s.flight.countP (fun f => (f.master, f.tag) == (r.master, r.tag)) = 0 := by
    rw [List.countP_eq_zero]; simpa using hf
  have h2 : s.released.countP (fun q => (q.master, q.tag) == (r.master, r.tag)) = 0 := by
    rw [List.countP_eq_zero]; simpa using hr
  have h3 : ((s.ctx r.master).parked.any fun p => decide (p.tag = r.tag)) = false := by
    rw [Bool.eq_false_iff, Ne, Option.any_eq_true]
    simpa using hp
  rw [State.tagCount, h1, h2, h3]
  rfl

/-- A linked read that fails no check finds its master without a parked read. -/
theorem State.parked_of_refusal {s : State} {r : Request} (h : s.refusal r = none) (hl : r.attr = .linked) :
    (s.ctx r.master).parked = none := by
  have hbusy := (refusalFollowsCheckOrder s r).2.mp h .parkedBusy
  rw [fails] at hbusy
  exact Option.eq_none_iff_forall_ne_some.mpr fun p hp => hbusy ⟨hl, p, hp⟩

/-- Where the granule of a request lies. -/
theorem State.dispose_cases (s : State) (r : Request) :
    (∃ why, s.refusal r = some why ∧ s.dispose r = .refused why) ∨
    (s.refusal r = none ∧
      ((s.dispose r = .forwardPlain ∨ s.dispose r = .forwardNomon ∨ s.dispose r = .exfailOutside) ∨
        ∃ w, s.classify r.address = some w ∧
          (s.dispose r = .forwardWrite w ∨
            (r.attr = .linked ∧ s.dispose r = s.judgeRead r.master (s.granuleOf w r.address)) ∨
            (s.passes r.master (s.granuleOf w r.address) = true ∧
              s.dispose r = .writePasses (s.granuleOf w r.address)) ∨
            s.dispose r = .writeFails (s.granuleOf w r.address)))) := by
  cases hr : s.refusal r with
  | some why => exact .inl ⟨why, rfl, State.dispose_of_refusal hr⟩
  | none =>
    right
    refine ⟨rfl, ?_⟩
    cases hc : s.classify r.address with
    | none => left; cases ha : r.attr <;> simp [State.dispose, hr, hc, ha]
    | some w =>
      cases ha : r.attr with
      | plain =>
        by_cases hk : r.kind = .read
        · left; simp [State.dispose, hr, hc, ha, hk]
        · right; exact ⟨w, rfl, .inl (by simp [State.dispose, hr, hc, ha, hk])⟩
      | linked => right; exact ⟨w, rfl, .inr (.inl ⟨rfl, by simp [State.dispose, hr, hc, ha]⟩)⟩
      | conditional =>
        right
        refine ⟨w, rfl, .inr (.inr ?_)⟩
        by_cases hp : s.passes r.master (s.granuleOf w r.address) = true
        · exact .inl ⟨hp, by simp [State.dispose, hr, hc, ha, hp]⟩
        · exact .inr (by simp [State.dispose, hr, hc, ha, hp])

/-! Acceptances. -/

/-- The laws stay, and one tag at most is added. -/
structure Joined (s : State) (x : Master × Tag) (u : State) : Prop extends KeptLaws nowhere s u where
  tags : ∀ y, u.tagCount y ≤ s.tagCount y + if x = y then 1 else 0

theorem Kept.joined {s u : State} (h : Kept nowhere s u) (x : Master × Tag) : Joined s x u :=
  ⟨h.toKeptLaws, fun y => (h.tags y).trans (Nat.le_add_right _ _)⟩

theorem Kept.trans_joined {s t u : State} {x : Master × Tag} (h : Kept nowhere s t) (k : Joined t x u) : Joined s x u :=
  ⟨h.toKeptLaws.trans k.toKeptLaws, fun y => (k.tags y).trans (Nat.add_le_add_right (h.tags y) _)⟩

theorem Joined.trans_kept {s t u : State} {x : Master × Tag} (h : Joined s x t) (k : Kept nowhere t u) : Joined s x u :=
  ⟨h.toKeptLaws.trans k.toKeptLaws, fun y => (k.tags y).trans (h.tags y)⟩

/-- A tag that no record held may be added. -/
theorem Joined.tagsDistinct {s u : State} {x : Master × Tag} (h : Joined s x u) (hx : s.tagCount x = 0)
    (hs : TagsDistinct s) : TagsDistinct u := by
  rw [tagsDistinct_iff] at *
  intro y
  have hy := h.tags y
  split_ifs at hy with heq
  · subst heq; omega
  · exact hy.trans (hs y)

section

variable {s : State} (hs : Agree s) {r : Request} {g : Granule}
include hs

/-- A linked read that is forwarded and arms. -/
theorem Agree.joined_forwardLinked {h : Option EntryIx} (hparked : (s.ctx r.master).parked = none)
    (hactive : s.active g.window = true) (hserving : holdsServing s r.master g)
    (hnamed : ∀ e, h = some e → (s.entry e).holder = some r.master ∧ (s.entry e).granule = g) :
    Joined s (r.master, r.tag) (s.carryOut r (.forwardLinked g h)) := by
  have hm := State.moved_move hs (g := g) hparked
  have harm : Joined (s.move r.master g) (r.master, r.tag) ((s.move r.master g).arm r.master r.tag r.address g h) :=
    ⟨State.keptLaws_arm hm.kept.agree r.tag r.address (by rw [State.active, State.window, hm.windows, hm.mon]; exact hactive) hm.parked
      (fun e hse hg => by
        have hg' : (s.entry e).granule = g := (hm.granule e).symm.trans hg
        rw [hm.entry e hg'] at hse ⊢
        exact hserving e hse hg')
      (fun e he => by rw [hm.entry e (hnamed e he).2]; exact (hnamed e he).1),
     fun y => (State.tagCount_arm _ _ _ _ _ _ y).le⟩
  exact (hm.kept.trans_joined harm).trans_kept ((State.forwarded_sameRecords _ _).kept harm.agree)

/-- A linked read that is parked behind a write in flight. -/
theorem Agree.joined_parkHazard (hparked : (s.ctx r.master).parked = none) (hactive : s.active g.window = true)
    (hcov : s.covered g = true) (hserving : holdsServing s r.master g) :
    Joined s (r.master, r.tag) (s.carryOut r (.parkHazard g)) := by
  have hcarry : s.carryOut r (.parkHazard g) =
      { (s.move r.master g).park r g .hazard with hazard := (s.move r.master g).hazard ++ [r.master] } := by
    simp only [State.carryOut, State.park_hazard]
  have hm := State.moved_move hs (g := g) hparked
  have htags : ∀ y, State.tagCount
      { (s.move r.master g).park r g .hazard with hazard := (s.move r.master g).hazard ++ [r.master] } y =
        (s.move r.master g).tagCount y + if (r.master, r.tag) = y then 1 else 0 := fun y => by
    rw [← State.tagCount_park hm.parked g .hazard y]
    simp [State.tagCount]
  have hpark := State.keptLaws_parkHazard (g := g) hm.kept.agree
    (by rw [State.active, State.window, hm.windows, hm.mon]; exact hactive) hm.parked hm.reservation hm.unarmed
    (by rw [hm.covered]; exact hcov)
    (fun e he => by
      obtain hn | ⟨i, hi, -, hg⟩ := hm.holdership
      · rw [hn] at he; cases he
      · rw [hi] at he; cases he; rw [hm.granule]; exact hg)
    (fun e hse hg => by
      have hg' : (s.entry e).granule = g := (hm.granule e).symm.trans hg
      rw [hm.entry e hg'] at hse ⊢
      exact hserving e hse hg')
  rw [hcarry]
  exact hm.kept.trans_joined ⟨hpark, fun y => (htags y).le⟩

/-- A linked read that joins a grant queue. -/
theorem Agree.joined_joinQueue {e : EntryIx} (hparked : (s.ctx r.master).parked = none) (hserv : (s.entry e).serving = true)
    (hgran : (s.entry e).granule = g) (hother : (s.entry e).holder ≠ some r.master) :
    Joined s (r.master, r.tag) (s.carryOut r (.joinQueue g e)) := by
  have hactive : s.active g.window = true := hgran ▸ hs.trackedActive e (Entry.used_of_serving hserv)
  have hm := State.moved_move hs (g := g) hparked
  have hidle : ((s.move r.master g).ctx r.master).holdership = none := by
    obtain hn | ⟨i, -, hi, hg⟩ := hm.holdership
    · exact hn
    · rw [← hs.holders] at hi
      have hsi := hs.serving_of_occupied (e := i) (.inl (by simp [hi]))
      obtain rfl := hs.tracked i e (Entry.used_of_serving hsi) (Entry.used_of_serving hserv) (hg.trans hgran.symm)
      exact absurd hi hother
  have hkeep := hm.entry e hgran
  have hact : (s.move r.master g).active g.window = true := by
    rw [State.active, State.window, hm.windows, hm.mon]; exact hactive
  show Joined s (r.master, r.tag) ((s.move r.master g).joinQueue r g e)
  unfold State.joinQueue
  dsimp only
  have hk := State.keptLaws_parkQueue (e := e) hm.kept.agree hact hm.parked hm.reservation hm.unarmed
    (by rw [hkeep]; exact hserv) (by rw [hkeep]; exact hgran) hidle
  have htags : ∀ y, ((((s.move r.master g).park r g (.queue e)).updEntry e fun x =>
      { x with queue := x.queue ++ [r.master] })).tagCount y = (s.move r.master g).tagCount y +
        if (r.master, r.tag) = y then 1 else 0 := fun y => by
    rw [← State.tagCount_park hm.parked g (.queue e) y]
    simp [State.tagCount]
  have hwindow : (((s.move r.master g).park r g (.queue e)).updEntry e fun x =>
      { x with queue := x.queue ++ [r.master] }).active g.window = true := by
    simpa [State.active] using hact
  have hdrain : ((((s.move r.master g).park r g (.queue e)).updEntry e fun x =>
      { x with queue := x.queue ++ [r.master] }).entry e).DrainOk := fun _ => .inr (by simp)
  generalize ((s.move r.master g).park r g (.queue e)).updEntry e (fun x => { x with queue := x.queue ++ [r.master] }) = v at *
  have hc := State.kept_contentionEvent hk.agree hwindow
  have hg := State.kept_attemptGrant hc.agree e
  have hall := hk.trans ((hc.trans hg).toKeptLaws.mono fun i hi => hi.elim)
  refine hm.kept.trans_joined ⟨⟨hall.agree, hall.tenure, fun i _ hi => ?_, fun i _ hi => ?_, hall.hazards⟩, fun y =>
    ((hc.trans hg).tags y).trans (htags y).le⟩
  · by_cases hie : i = e
    · subst hie; exact (hc.trans hg).drain i id hdrain
    · exact hall.drain i hie hi
  · by_cases hie : i = e
    · subst hie; exact State.waitOk_attemptGrant hc.agree i
    · exact hall.waits i hie hi

/-- A write joins the flight list while no released read waits. -/
theorem Agree.joined_track {f : Flight} {x : Master × Tag} (harmed : f.armed = false) (hnamed : f.holderEntry = none)
    (hx : (f.master, f.tag) = x) (hnone : s.released = []) : Joined s x (s.track f) :=
  ⟨State.keptLaws_track hs harmed hnamed fun _ => by simp [hnone], fun y => by rw [State.tagCount_track, hx]⟩

/-- A plain write in a window. -/
theorem Agree.joined_forwardWrite (hnone : s.released = []) (w : WindowIx) :
    Joined s (r.master, r.tag) (s.carryOut r (.forwardWrite w)) := by
  have hk := (s.loosened_clearRange (s.writeRange w r.address r.size)).kept hs
  have htrack := hk.agree.joined_track (x := (r.master, r.tag))
    (f := ⟨.write, r.master, r.tag, r.address, s.writeRange w r.address r.size⟩) rfl rfl rfl
    (by simp [State.clearRange, hnone])
  exact (hk.trans_joined htrack).trans_kept ((State.forwarded_sameRecords _ _).kept htrack.agree)

/-- A conditional write that passes. -/
theorem Agree.joined_writePasses (hnone : s.released = []) : Joined s (r.master, r.tag) (s.carryOut r (.writePasses g)) := by
  have hl := (s.loosened_clearReservation r.master).trans
    ((s.clearReservation r.master).loosened_clearRange (s.rangeOf g))
  have hk := hl.kept hs
  have hfree : ((s.clearReservation r.master).clearRange (s.rangeOf g)).released = [] := by
    simp [State.clearRange, State.clearReservation, hnone]
  show Joined s (r.master, r.tag) ((s.passWrite r g).forwarded r.toFar)
  have hpass : Joined s (r.master, r.tag) (s.passWrite r g) := by
    unfold State.passWrite
    dsimp only
    generalize (s.clearReservation r.master).clearRange (s.rangeOf g) = t at hk hl hfree ⊢
    have htrack := hk.agree.joined_track (x := (r.master, r.tag))
      (f := ⟨.cwrite, r.master, r.tag, r.address, t.rangeOf g⟩) rfl rfl rfl hfree
    split
    · exact (hk.trans_joined htrack).trans_kept (State.kept_releaseEntry htrack.agree _)
    · exact hk.trans_joined htrack
  exact hpass.trans_kept ((State.forwarded_sameRecords _ _).kept hpass.agree)

/-- The release of whatever a master holds keeps everything. -/
theorem Agree.kept_releaseHeld (m : Master) : Kept nowhere s (s.releaseHeld m) := by
  unfold State.releaseHeld
  split
  · split_ifs
    · exact State.kept_releaseEntry hs _
    · exact Kept.refl hs _
  · exact Kept.refl hs _

/-- A conditional write that fails. -/
theorem Agree.kept_writeFails (hactive : s.active g.window = true) : Kept nowhere s (s.carryOut r (.writeFails g)) := by
  have hl := (s.loosened_clearReservation r.master)
  have hk := hl.kept hs
  have hc := hk.trans (State.kept_contentionEvent hk.agree (by rw [hl.active]; exact hactive))
  have hr := hc.trans (hc.agree.kept_releaseHeld r.master)
  exact hr.trans ((State.enqueue_sameRecords _ _ _ _).kept hr.agree)

/-- An acceptance keeps the laws and adds the tag of the request at most. -/
theorem Agree.joined_carryOut (hfree : (s.dispose r).forwards = true → s.released = []) :
    (∃ why, s.refusal r = some why ∧ Kept nowhere s (s.carryOut r (s.dispose r))) ∨
      s.refusal r = none ∧ Joined s (r.master, r.tag) (s.carryOut r (s.dispose r)) := by
  obtain ⟨why, hwhy, hd⟩ | ⟨hnone, (hd | hd | hd) | ⟨w, hw, hd | ⟨hattr, hd⟩ | ⟨-, hd⟩ | hd⟩⟩ := s.dispose_cases r
  · refine .inl ⟨why, hwhy, ?_⟩
    rw [hd]
    have hk := (State.enqueue_sameRecords s r.master r.tag .seqerr).kept hs
    exact hk.trans ((State.notify_sameRecords _ _).kept hk.agree)
  all_goals refine .inr ⟨hnone, ?_⟩
  all_goals try have hactive : s.active (s.granuleOf w r.address).window = true := (State.classify_some hw).1
  · rw [hd]; exact ((State.forwarded_sameRecords s r.toFar).kept hs).joined _
  · rw [hd]
    have hk := (State.setNomon_sameRecords s r.master r.tag true).kept hs
    exact (hk.trans ((State.forwarded_sameRecords _ _).kept hk.agree)).joined _
  · rw [hd]; exact ((State.enqueue_sameRecords s r.master r.tag .exfail).kept hs).joined _
  · rw [hd] at hfree ⊢
    exact hs.joined_forwardWrite (hfree rfl) w
  · have hparked := State.parked_of_refusal hnone hattr
    rw [hd]
    cases hj : s.judgeRead r.master (s.granuleOf w r.address) with
    | forwardLinked g h =>
      obtain ⟨rfl, -, hserving, hnamed⟩ := hs.judgeRead_forward hj
      exact hs.joined_forwardLinked hparked hactive hserving hnamed
    | parkHazard g =>
      obtain ⟨rfl, hcov, hserving⟩ := hs.judgeRead_hazard hj
      exact hs.joined_parkHazard hparked hactive hcov hserving
    | joinQueue g e =>
      obtain ⟨rfl, hserv, hgran, hother⟩ := hs.judgeRead_queue hj
      exact hs.joined_joinQueue hparked hserv hgran hother
    | _ => unfold State.judgeRead at hj; split at hj <;> split_ifs at hj
  · rw [hd] at hfree ⊢
    exact hs.joined_writePasses (hfree rfl)
  · rw [hd]
    exact (hs.kept_writeFails hactive).joined _

end

end Sys2Proof.Machine
end

section
/-! SUPPORT. The window table and the management link keep the laws: register writes, CLEAR ALL, RELEASE HOLDER, frames. -/

namespace Sys2Proof.Machine

open Sys2Proof.Safety Sys2Proof.Claim

/-! The window table. -/

/-- Some record of the laws lies in the window. -/
def State.uses (s : State) (w : WindowIx) : Prop :=
  (∃ m g, (s.ctx m).reservation = some g ∧ g.window = w) ∨ (∃ m p, (s.ctx m).parked = some p ∧ p.granule.window = w) ∨
    (∃ r ∈ s.released, r.mode ≠ .plain ∧ r.granule.window = w) ∨
    ∃ e, (s.entry e).state ≠ .free ∧ (s.entry e).granule.window = w

/-- Records lie in ACTIVE windows only. -/
theorem Agree.active_of_uses {s : State} (hs : Agree s) {w : WindowIx} (h : s.uses w) : s.active w = true := by
  obtain ⟨m, g, hg, rfl⟩ | ⟨m, p, hp, rfl⟩ | ⟨r, hr, hm, rfl⟩ | ⟨e, he, rfl⟩ := h
  · exact hs.reserved m g hg
  · exact hs.parkedActive m p hp
  · exact hs.releasedActive r hr hm
  · exact hs.trackedActive e he

/-- After a dissolution no record lies in its windows. -/
theorem Agree.not_uses_dissolve {s : State} (hs : Agree s) {p : WindowIx → Bool} {w : WindowIx} (hw : p w = true) :
    ¬ (s.dissolve p).uses w := by
  rintro (⟨m, g, hg, rfl⟩ | ⟨m, q, hq, rfl⟩ | ⟨r, hr, hm, rfl⟩ | ⟨e, he, rfl⟩)
  · rw [State.dissolve_ctx] at hg
    have := (Option.filter_eq_some_iff.mp hg).2
    simp [hw] at this
  · rw [State.dissolve_ctx] at hq
    have := (Option.filter_eq_some_iff.mp hq).2
    simp [hw] at this
  · have := (hs.mem_dissolve_released hr hm).2
    simp [hw] at this
  · rw [State.dissolve_entry] at he hw
    split_ifs at he hw with hp
    · exact he rfl
    · exact hp hw

/-- Only the window table and MON change, and the windows that records lie in stay as they are. -/
structure Rewindowed (s u : State) : Prop where
  table : TableLegal u
  contexts : u.contexts = s.contexts
  contention : u.contention = s.contention
  flight : u.flight = s.flight
  hazard : u.hazard = s.hazard
  released : u.released = s.released
  kept : ∀ w, s.uses w → u.active w = true ∧ u.window w = s.window w

section

variable {s u : State} (h : Rewindowed s u)
include h

theorem Rewindowed.ctx (m : Master) : u.ctx m = s.ctx m := State.ctx_congr h.contexts m

theorem Rewindowed.entry (e : EntryIx) : u.entry e = s.entry e := State.entry_congr h.contention e

theorem Rewindowed.covered {g : Granule} (hg : s.uses g.window) : u.covered g = s.covered g := by
  simp only [State.covered, State.inRange, State.granuleBytes, h.flight, (h.kept _ hg).2]

theorem Rewindowed.agree (hs : Agree s) : Agree u := by
  have hres : ∀ m g, (s.ctx m).reservation = some g → s.uses g.window := fun m g hg => .inl ⟨m, g, hg, rfl⟩
  have hpark : ∀ m p, (s.ctx m).parked = some p → s.uses p.granule.window := fun m p hp => .inr (.inl ⟨m, p, hp, rfl⟩)
  have hrel : ∀ r ∈ s.released, r.mode ≠ .plain → s.uses r.granule.window := fun r hr hm =>
    .inr (.inr (.inl ⟨r, hr, hm, rfl⟩))
  have hent : ∀ e, (s.entry e).state ≠ .free → s.uses (s.entry e).granule.window := fun e he => .inr (.inr (.inr ⟨e, he, rfl⟩))
  constructor
  case table => exact h.table
  all_goals try simp only [h.ctx, h.entry, OneMarkEach, h.flight, h.released, h.hazard]
  case reserved => exact fun m g hg => (h.kept _ (hres m g hg)).1
  case parkedActive => exact fun m p hp => (h.kept _ (hpark m p hp)).1
  case releasedActive => exact fun r hr hm => (h.kept _ (hrel r hr hm)).1
  case queueNodup => exact hs.queueNodup
  case queued => exact hs.queued
  case queuedOn => exact hs.queuedOn
  case hazardNodup => exact hs.hazardNodup
  case hazarded => exact hs.hazarded
  case holders => exact hs.holders
  case waiters => exact hs.waiters
  case unreserved => exact hs.unreserved
  case unarmed => exact hs.unarmed
  case law4 => exact hs.law4
  case arming => exact hs.arming
  case rereads => exact hs.rereads
  case flightNamed => exact hs.flightNamed
  case releasedNamed => exact hs.releasedNamed
  case marks => exact hs.marks
  case oneMark => exact hs.oneMark
  case tracked => exact hs.tracked
  case trackedActive => exact fun e he => (h.kept _ (hent e he)).1
  case trackedAllowed => intro e he; rw [(h.kept _ (hent e he)).2]; exact hs.trackedAllowed e he
  case law6 => intro r hr hm; rw [h.covered (hrel r hr hm)]; exact hs.law6 r hr hm
  case law10 => intro i; rw [h.entry]; exact hs.law10 i

theorem Rewindowed.kept_all (hs : Agree s) : Kept nowhere s u where
  agree := h.agree hs
  tenure i := by rw [h.entry]; exact id
  drain i _ := by rw [h.entry]; exact id
  waits i _ hi hq hn := by
    rw [h.entry] at hq hn ⊢
    have hserv := hs.serving_of_occupied (e := i) (.inr hq)
    rw [h.covered (.inr (.inr (.inr ⟨i, Entry.used_of_serving hserv, rfl⟩)))]
    exact hi hq hn
  hazards hh m hm p hp := by
    rw [h.hazard] at hm
    rw [h.ctx] at hp
    rw [h.covered (.inr (.inl ⟨m, p, hp, rfl⟩))]
    exact hh m hm p hp
  tags x := by simp only [State.tagCount, h.flight, h.released, h.ctx]; exact le_rfl

end

theorem Window.overlaps_comm (r q : Window) : r.overlaps q = q.overlaps r := by
  unfold Window.overlaps; rw [Bool.and_comm]

/-- The table stays legal when one record is replaced by a legal one that overlaps no enabled window. -/
theorem tableLegal_updWindow {s : State} (hs : TableLegal s) {w : WindowIx} {f : Window → Window}
    (hlegal : WindowLegal (f (s.window w)))
    (hover : (f (s.window w)).enable = true → ∀ v, v ≠ w → (s.window v).enable = true →
      (s.window v).overlaps (f (s.window w)) = false) : TableLegal (s.updWindow w f) := by
  refine ⟨fun i => ?_, fun i j hij hi hj => ?_⟩
  · rw [State.window_updWindow]
    split_ifs with h
    · rw [h]; exact hlegal
    · exact hs.1 i
  · rw [State.window_updWindow] at hi hj ⊢
    rw [State.window_updWindow s w j]
    split_ifs at hi hj ⊢ with h1 h2 h2
    · exact absurd (h1.trans h2.symm) hij
    · rw [h1] at hi ⊢
      rw [Window.overlaps_comm]
      exact hover hi j h2 hj
    · rw [h2] at hj ⊢
      exact hover hj i h1 hi
    · exact hs.2 i j hij hi hj

/-- One window record in which nothing lies may change, when the table stays legal. -/
theorem State.rewindowed_updWindow {s : State} {w : WindowIx} {f : Window → Window} (hs : Agree s)
    (hunused : ¬ s.uses w) (htable : TableLegal (s.updWindow w f)) : Rewindowed s (s.updWindow w f) := by
  refine ⟨htable, rfl, rfl, rfl, rfl, rfl, fun i hi => ?_⟩
  have hiw : i ≠ w := fun h => hunused (h ▸ hi)
  have hsame : (s.updWindow w f).window i = s.window i := by rw [State.window_updWindow, if_neg hiw]
  refine ⟨?_, hsame⟩
  rw [State.active, hsame]
  exact hs.active_of_uses hi

theorem State.refuse_sameRecords (s : State) : SameRecords s s.refuse := by constructor <;> rfl

/-- The fields of CONTROL take the values of a word. -/
def State.setControl (s : State) (v : Word32) : State :=
  { s with
    mon := v.getLsbD 0
    sampleCode := v.extractLsb' 4 2
    mask := v.extractLsb' 16 6
    sampleLength := if s.atExpiry then Config.samplePeriod (v.extractLsb' 4 2) else s.sampleLength }

theorem State.writeControl_eq (s : State) (v : Word32) :
    s.writeControl v = (if s.mon && !v.getLsbD 0 then s.dissolve fun i => s.active i else s).setControl v := rfl

section

variable {s : State} (hs : Agree s) (w : WindowIx) (v : Word32)
include hs

theorem Agree.kept_refuse : Kept nowhere s s.refuse := s.refuse_sameRecords.kept hs

/-- A disabled window's record replaced by a legal one. -/
theorem Agree.kept_updDisabled {f : Window → Window} (hoff : (s.window w).enable = false)
    (hlegal : WindowLegal (f (s.window w))) (henable : (f (s.window w)).enable = false) :
    Kept nowhere s (s.updWindow w f) := by
  refine (State.rewindowed_updWindow hs (fun hu => ?_) (tableLegal_updWindow hs.table hlegal fun h => ?_)).kept_all hs
  · have := hs.active_of_uses hu
    simp [State.active, hoff] at this
  · rw [henable] at h; cases h

theorem Agree.kept_writeBase : Kept nowhere s (s.writeBase w v) := by
  unfold State.writeBase
  split_ifs with h
  · exact hs.kept_refuse
  · simp only [Bool.or_eq_true, decide_eq_true_eq, not_or, Bool.not_eq_true, ne_eq, not_not] at h
    refine hs.kept_updDisabled w h.1 ?_ h.1
    obtain ⟨h1, -, h3, -⟩ := hs.table.1 w
    refine ⟨h1, ?_, h3, fun he => ?_⟩
    · have := congrArg BitVec.toNat h.2
      simpa [BitVec.extractLsb'_toNat] using this
    · rw [show ({ s.window w with base := v } : Window).enable = (s.window w).enable from rfl, h.1] at he
      cases he

theorem Agree.kept_writeShape : Kept nowhere s (s.writeShape w v) := by
  unfold State.writeShape
  split_ifs with h
  · exact hs.kept_refuse
  · simp only [Bool.or_eq_true, decide_eq_true_eq, not_or, Bool.not_eq_true, not_le] at h
    refine hs.kept_updDisabled w h.1 ?_ h.1
    obtain ⟨-, h2, h3, -⟩ := hs.table.1 w
    exact ⟨Nat.le_of_lt_succ h.2, h2, h3, fun he => by simp [h.1] at he⟩

theorem Agree.kept_writeLimits : Kept nowhere s (s.writeLimits w v) := by
  unfold State.writeLimits
  split_ifs with h
  · exact hs.kept_refuse
  · simp only [Bool.or_eq_true, decide_eq_true_eq, not_or, Bool.not_eq_true] at h
    refine hs.kept_updDisabled w h.1 ?_ h.1
    obtain ⟨h1, h2, -, -⟩ := hs.table.1 w
    exact ⟨h1, h2, h.2, fun he => by simp [h.1] at he⟩

/-- A dissolved window is disabled. -/
theorem Agree.kept_disable (hunused : ¬ s.uses w) : Kept nowhere s (s.updWindow w fun r => { r with enable := false }) := by
  obtain ⟨h1, h2, h3, -⟩ := hs.table.1 w
  refine (State.rewindowed_updWindow hs hunused (tableLegal_updWindow hs.table ⟨h1, h2, h3, fun h => ?_⟩ fun h => ?_)).kept_all hs
  all_goals cases h

theorem Agree.kept_writeEnable : Kept nowhere s (s.writeEnable w v) := by
  unfold State.writeEnable
  by_cases hset : v.getLsbD 0 = true
  · rw [if_pos hset]
    split_ifs with hon hmay
    · exact Kept.refl hs _
    · rw [Bool.not_eq_true] at hon
      simp only [State.mayEnable, Bool.and_eq_true, Bool.not_eq_true', State.overlapsOther, List.any_eq_false,
        decide_eq_true_eq, Bool.not_eq_true, not_and] at hmay
      obtain ⟨⟨hbase, hhyst⟩, hover⟩ := hmay
      obtain ⟨h1, h2, h3, -⟩ := hs.table.1 w
      refine (State.rewindowed_updWindow hs (fun hu => ?_) (tableLegal_updWindow hs.table ⟨h1, h2, h3, fun _ => ⟨hbase, hhyst⟩⟩
        fun _ i hi hen => hover i (List.mem_finRange i) ⟨hi, hen⟩)).kept_all hs
      have := hs.active_of_uses hu
      simp [State.active, hon] at this
    · exact hs.kept_refuse
  · rw [if_neg hset]
    dsimp only
    split_ifs with hact
    · have hd := State.kept_dissolve hs fun i => decide (i = w)
      exact hd.trans (hd.agree.kept_disable w (hs.not_uses_dissolve (by simp)))
    · exact hs.kept_disable w fun hu => hact (hs.active_of_uses hu)

/-- CONTROL takes its new fields when nothing stays in a window that they make inactive. -/
theorem Agree.kept_setControl (hoff : v.getLsbD 0 = true ∨ ∀ w, ¬ s.uses w) : Kept nowhere s (s.setControl v) := by
  have hr : Rewindowed s (s.setControl v) := by
    refine ⟨hs.table, rfl, rfl, rfl, rfl, rfl, fun w hw => ⟨?_, rfl⟩⟩
    have hact := hs.active_of_uses hw
    obtain h | h := hoff
    · simp only [State.active, Bool.and_eq_true] at hact ⊢
      exact ⟨h, hact.2⟩
    · exact absurd hw (h w)
  exact hr.kept_all hs

theorem Agree.kept_writeControl : Kept nowhere s (s.writeControl v) := by
  rw [State.writeControl_eq]
  split_ifs with h
  · have hd := State.kept_dissolve hs fun i => s.active i
    refine hd.trans (hd.agree.kept_setControl v (.inr fun w hw => ?_))
    have hact := hd.agree.active_of_uses hw
    rw [State.dissolve_active] at hact
    exact hs.not_uses_dissolve hact hw
  · by_cases hv : v.getLsbD 0 = true
    · exact hs.kept_setControl v (.inl hv)
    · refine hs.kept_setControl v (.inr fun w hw => h ?_)
      have hact := hs.active_of_uses hw
      rw [State.active, Bool.and_eq_true] at hact
      rw [Bool.not_eq_true] at hv
      rw [hact.1, hv]
      rfl

theorem Agree.kept_writeRegister (a : Byte) : Kept nowhere s (s.writeRegister a v) := by
  unfold State.writeRegister
  split
  · exact hs.kept_refuse
  · exact hs.kept_refuse
  · exact hs.kept_writeControl v
  · exact hs.kept_writeBase _ v
  · exact hs.kept_writeShape _ v
  · exact hs.kept_writeLimits _ v
  · exact hs.kept_writeEnable _ v

end

/-! The link. -/

theorem State.updLink_sameRecords (s : State) (f : Link → Link) : SameRecords s (s.updLink f) := by constructor <;> rfl

section

variable {s : State} (hs : Agree s)
include hs

theorem Agree.kept_updLink (f : Link → Link) : Kept nowhere s (s.updLink f) := (s.updLink_sameRecords f).kept hs

theorem Agree.kept_clearAll : Kept nowhere s s.clearAll := by
  have hd := State.kept_dissolve hs fun _ => true
  have hsame : SameRecords (s.dissolve fun _ => true) s.clearAll := by constructor <;> rfl
  exact hd.trans (hsame.kept hd.agree)

theorem Agree.kept_releaseHolder (i : Byte) : Kept nowhere s (s.releaseHolder i) := by
  unfold State.releaseHolder
  split_ifs
  · exact State.kept_releaseEntry hs _
  · exact hs.kept_refuse
  · exact hs.kept_refuse

omit hs in
theorem State.returns_sameRecords (s : State) (l : List Byte) : SameRecords s (s.returns l) := s.updLink_sameRecords _

theorem Agree.kept_returns (l : List Byte) : Kept nowhere s (s.returns l) := (s.returns_sameRecords l).kept hs

theorem Agree.kept_commandByte (b : Byte) : Kept nowhere s (s.commandByte b) := by
  have hk := hs.kept_updLink fun k => { k with command := decodeCommand b }
  unfold State.commandByte
  dsimp only
  generalize s.updLink (fun k => { k with command := decodeCommand b }) = t at hk ⊢
  refine hk.trans ?_
  have ht := hk.agree
  split
  · exact ht.kept_refuse.trans (ht.kept_refuse.agree.kept_updLink _)
  · exact (ht.kept_updLink _).trans ((ht.kept_updLink _).agree.kept_returns _)
  · have hsame : SameRecords t { t.returns t.statusRecord with discardMark := false } := by constructor <;> rfl
    exact hsame.kept ht
  · exact ht.kept_clearAll.trans (ht.kept_clearAll.agree.kept_updLink _)
  · exact ht.kept_updLink _

theorem Agree.kept_refused_returns (l : List Byte) : Kept nowhere s (s.refuse.returns l) :=
  hs.kept_refuse.trans (hs.kept_refuse.agree.kept_returns l)

theorem Agree.kept_argumentByte (b : Byte) : Kept nowhere s (s.argumentByte b) := by
  unfold State.argumentByte
  split
  · unfold State.askRegister
    split
    · exact hs.kept_returns _
    · exact hs.kept_refused_returns _
  · exact hs.kept_updLink _
  · unfold State.askEntry
    split_ifs
    · exact hs.kept_returns _
    · exact hs.kept_refused_returns _
  · unfold State.askContext
    split_ifs
    · exact hs.kept_returns _
    · exact hs.kept_refused_returns _
  · exact (hs.kept_releaseHolder b).trans ((hs.kept_releaseHolder b).agree.kept_updLink _)
  · exact hs.kept_updLink _

theorem Agree.kept_dataByte (b : Byte) : Kept nowhere s (s.dataByte b) := by
  unfold State.dataByte
  split
  next x y z _ =>
    have hw := hs.kept_writeRegister (bytesWord x y z b) s.link.argument
    exact hw.trans (hw.agree.kept_updLink _)
  · exact hs.kept_updLink _

omit hs in
theorem State.finishReturn_sameRecords (s : State) : SameRecords s s.finishReturn := by
  unfold State.finishReturn
  split
  · split_ifs <;> constructor <;> rfl
  · constructor <;> rfl
  · constructor <;> rfl

theorem Agree.kept_returnByte : Kept nowhere s s.returnByte := by
  have hk := hs.kept_updLink fun k => { k with shiftOut := k.shiftOut.tail }
  unfold State.returnByte
  dsimp only
  split_ifs
  · have hf := (State.finishReturn_sameRecords _).kept hk.agree
    exact hk.trans (hf.trans (hf.agree.kept_updLink _))
  · exact hk

/-- A byte of a frame keeps everything. -/
theorem Agree.kept_linkByte (b : Byte) : Kept nowhere s (s.linkByte b) := by
  unfold State.linkByte
  split_ifs with hidle
  · exact Kept.refl hs _
  · have hk := hs.kept_updLink fun k => { k with mso := k.mso ++ [k.outByte], done := k.done + 1 }
    dsimp only
    generalize s.updLink (fun k => { k with mso := k.mso ++ [k.outByte], done := k.done + 1 }) = t at hk ⊢
    have ht := hk.agree
    refine hk.trans ?_
    split_ifs
    · exact ht.kept_updLink _
    · split
      · exact ht.kept_commandByte b
      · exact ht.kept_argumentByte b
      · exact ht.kept_dataByte b
      · exact ht.kept_returnByte
      · exact Kept.refl ht _
      · exact Kept.refl ht _

theorem Agree.kept_mcsFall : Kept nowhere s s.mcsFall := by
  unfold State.mcsFall
  split_ifs
  · exact Kept.refl hs _
  · exact hs.kept_updLink _
  · exact hs.kept_updLink _

theorem Agree.kept_mcsRise : Kept nowhere s s.mcsRise := hs.kept_updLink _

omit hs in
theorem State.kept_clockBytes (frame : List Byte) (n : Nat) {s : State} (hs : Agree s) :
    Kept nowhere s (s.clockBytes frame n) := by
  induction n generalizing s with
  | zero => exact Kept.refl hs _
  | succ n ih =>
    have hb := hs.kept_linkByte (frame.getD s.link.done 0#8)
    exact hb.trans (ih hb.agree)

/-- A frame, or a part of one, keeps everything. -/
theorem Agree.kept_frameCommand (frame : List Byte) (f : Frame) : Kept nowhere s (s.frameCommand frame f) := by
  have hq := s.quiet_sameRecords.kept hs
  have hrun : Kept nowhere s (s.quiet.runFrame frame f) := by
    refine hq.trans ?_
    have hstart : Kept nowhere s.quiet (if f.starts then s.quiet.mcsRise.mcsFall else s.quiet) := by
      split_ifs
      · exact hq.agree.kept_mcsRise.trans hq.agree.kept_mcsRise.agree.kept_mcsFall
      · exact Kept.refl hq.agree _
    have hclock := hstart.trans (State.kept_clockBytes frame f.bytes hstart.agree)
    unfold State.runFrame
    dsimp only
    by_cases hends : f.ends = true
    · rw [if_pos hends]; exact hclock.trans hclock.agree.kept_mcsRise
    · rw [if_neg hends]; exact hclock
  unfold State.frameCommand
  dsimp only
  split_ifs
  · exact hrun
  · exact hrun.trans ((State.took_sameRecords _).kept hrun.agree)

end

end Sys2Proof.Machine
end

section
/-! SUPPORT. What one step can do, said once: the events that a command or a REFCLK period brings about. Every step keeps the
laws (O54), the tags and the waiters (O55). -/

namespace Sys2Proof.Machine

open Sys2Proof.Safety Sys2Proof.Claim

/-! The events of a step. -/

/-- What a command makes of the state: nothing, or one event, with the conditions under which it comes about. -/
inductive Effect (s : State) : State → Prop where
  | nothing : Effect s s.quiet
  | discarded : Effect s s.quiet.took
  | accepted (r : Request) (far : Bool) (run : s.refclkRunning = true) (ready : s.requestReady (s.dispose r) far = true) :
      Effect s (s.quiet.carryOut r (s.dispose r)).took
  | cancelled (m : Master) (p : Parked) (live : s.live = true) (parked : (s.ctx m).parked = some p)
      (room : s.replies.length < 4) : Effect s (s.quiet.cancel m p).took
  | responded (r : FarResponse) (live : s.live = true) : Effect s (s.quiet.respond r).took
  | sent (r : QueuedReply) (rest : List QueuedReply) (live : s.live = true) (head : s.replies = r :: rest) :
      Effect s ({ s.quiet with replies := rest }.replied r.toNear).took
  | forwarded (r : Released) (live : s.live = true) (chosen : s.arbiter = some r) : Effect s (s.quiet.forwardRead r).took
  | expired (live : s.live = true) : Effect s s.quiet.expire.took
  | unitTaken (live : s.live = true) : Effect s s.quiet.unit.took
  | tenureExpired (e : EntryIx) (live : s.live = true) (due : (s.entry e).expiring = true) :
      Effect s (s.quiet.expireTenure e).took
  | reset : Effect s s.hardReset.took
  | released (run : s.refclkRunning = true) (held : s.inReset = true) :
      Effect s { s.quiet with resetLow := false, inReset := false }.took
  | raised (still : s.refclkRunning = false ∨ s.inReset = false) : Effect s { s.quiet with resetLow := false }
  | stopped : Effect s { s.quiet with refclkRunning := false }.took
  | runs : Effect s { s.quiet with refclkRunning := true, inReset := s.inReset && s.resetLow }.took
  | frame (bytes : List Byte) (f : Frame) : Effect s (s.frameCommand bytes f)
  | short (bits : Fin 8) {u : State} (h : execShortFrame bits s = .next u) : Effect s u

/-- A request that is offered is accepted, or changes nothing. -/
theorem State.offer_cases (s : State) (r : Request) (far : Bool) :
    (s.refclkRunning = true ∧ s.requestReady (s.dispose r) far = true ∧
      s.offer r far = (s.quiet.carryOut r (s.dispose r)).took) ∨
    (¬ (s.refclkRunning = true ∧ s.requestReady (s.dispose r) far = true) ∧ s.offer r far = s.quiet) := by
  by_cases h : s.refclkRunning = true ∧ s.requestReady (s.dispose r) far = true
  · exact .inl ⟨h.1, h.2, State.offer_of_ready rfl h.1 h.2⟩
  · refine .inr ⟨h, if_neg ?_⟩
    rw [Bool.and_eq_true]
    exact h

theorem Effect.of_offer {s : State} {r : Request} {far : Bool} : Effect s (s.offer r far) := by
  obtain ⟨hrun, hready, h⟩ | ⟨-, h⟩ := s.offer_cases r far <;> rw [h]
  · exact .accepted r far hrun hready
  · exact .nothing

/-- The bytes of a management command. -/
def bytesOfCommand (c : Instr) : List Byte :=
  match c with
  | .readRegister a _ => [commandCode .readRegister, a]
  | .writeRegister a v _ => writeFrame a v
  | .writeControl v _ => writeFrame (registerAddress .control) v
  | .enableSet w upper _ => writeFrame (registerAddress (.enable w)) (upper ++ 1#1)
  | .enableClear w upper _ => writeFrame (registerAddress (.enable w)) (upper ++ 0#1)
  | .readEntry i _ => [commandCode .readEntry, i]
  | .readContext i _ => [commandCode .readContext, i]
  | .takeNotice _ => [commandCode .takeNotice]
  | .readStatus _ => [commandCode .readStatus]
  | .clearAll _ => [commandCode .clearAll]
  | .releaseHolder i _ => [commandCode .releaseHolder, i]
  | .unknownCommand c _ => [c]
  | _ => []

/-- A management command is a frame of its bytes. -/
theorem exec_of_frameOf {c : Instr} {f : Frame} (h : frameOf c = some f) (s : State) :
    exec c s = .next (s.frameCommand (bytesOfCommand c) f) := by
  cases c <;> cases h <;> rfl

section

variable (s : State)

theorem Effect.of_withdraw (m : Master) (t : Tag) : ∃ u, exec (.withdraw m t) s = .next u ∧ Effect s u := by
  show ∃ u, execWithdraw m t s = .next u ∧ Effect s u
  unfold execWithdraw
  dsimp only
  split_ifs with hready
  · obtain ⟨hrun, hready⟩ := Bool.and_eq_true_iff.mp hready
    split
    next p hp =>
      have hp' : s.withdrawn m t = some p := hp
      obtain ⟨hreset, hroom⟩ := (s.withdrawReady_iff m t).mp hready
      obtain ⟨hparked, htag⟩ := Option.filter_eq_some_iff.mp hp'
      exact ⟨_, rfl, .cancelled m p (s.live_iff.mpr ⟨hrun, hreset⟩) hparked (hroom p hparked (of_decide_eq_true htag))⟩
    next => exact ⟨_, rfl, .discarded⟩
  · exact ⟨_, rfl, .nothing⟩

theorem Effect.of_farResponse (m : Master) (t : Tag) (st : FarStatus) (d : Data) (ready : Bool) :
    ∃ u, exec (.farResponse m t st d ready) s = .next u ∧ Effect s u := by
  show ∃ u, execFarResponse m t st d ready s = .next u ∧ Effect s u
  unfold execFarResponse
  dsimp only
  split_ifs with hready hreset
  · exact ⟨_, rfl, .discarded⟩
  · refine ⟨_, rfl, .responded _ (s.live_iff.mpr ⟨(Bool.and_eq_true_iff.mp hready).1, ?_⟩)⟩
    simpa using hreset
  · exact ⟨_, rfl, .nothing⟩

theorem Effect.of_replyQueueSend : ∃ u, exec .replyQueueSend s = .next u ∧ Effect s u := by
  show ∃ u, execReplyQueueSend s = .next u ∧ Effect s u
  unfold execReplyQueueSend
  dsimp only
  split_ifs with hlive
  · split
    next r rest h => exact ⟨_, rfl, .sent r rest hlive h⟩
    next => exact ⟨_, rfl, .nothing⟩
  · exact ⟨_, rfl, .nothing⟩

theorem Effect.of_releasedReadForwarding : ∃ u, exec .releasedReadForwarding s = .next u ∧ Effect s u := by
  show ∃ u, execReleasedReadForwarding s = .next u ∧ Effect s u
  unfold execReleasedReadForwarding
  dsimp only
  split_ifs with hlive
  · split
    next r h => exact ⟨_, rfl, .forwarded r hlive h⟩
    next => exact ⟨_, rfl, .nothing⟩
  · exact ⟨_, rfl, .nothing⟩

theorem Effect.of_samplePeriodExpiry : ∃ u, exec .samplePeriodExpiry s = .next u ∧ Effect s u := by
  show ∃ u, execSamplePeriodExpiry s = .next u ∧ Effect s u
  unfold execSamplePeriodExpiry
  dsimp only
  split_ifs with hlive
  · exact ⟨_, rfl, .expired hlive⟩
  · exact ⟨_, rfl, .nothing⟩

theorem Effect.of_tenureUnit : ∃ u, exec .tenureUnit s = .next u ∧ Effect s u := by
  show ∃ u, execTenureUnit s = .next u ∧ Effect s u
  unfold execTenureUnit
  dsimp only
  split_ifs with hlive
  · exact ⟨_, rfl, .unitTaken hlive⟩
  · exact ⟨_, rfl, .nothing⟩

theorem Effect.of_tenureExpiry (e : EntryIx) : ∃ u, exec (.tenureExpiry e) s = .next u ∧ Effect s u := by
  show ∃ u, execTenureExpiry e s = .next u ∧ Effect s u
  unfold execTenureExpiry
  dsimp only
  split_ifs with h
  · obtain ⟨hlive, hdue⟩ := Bool.and_eq_true_iff.mp h
    exact ⟨_, rfl, .tenureExpired e hlive hdue⟩
  · exact ⟨_, rfl, .nothing⟩

theorem Effect.of_resetRelease : ∃ u, exec .resetRelease s = .next u ∧ Effect s u := by
  show ∃ u, execResetRelease s = .next u ∧ Effect s u
  unfold execResetRelease
  dsimp only
  split_ifs with h
  · obtain ⟨hrun, hheld⟩ := Bool.and_eq_true_iff.mp h
    have hsee : State.seeRelease { s.quiet with resetLow := false } = { s.quiet with resetLow := false, inReset := false } := by
      simp only [State.seeRelease, Bool.and_false]
    rw [hsee]
    exact ⟨_, rfl, .released hrun hheld⟩
  · refine ⟨_, rfl, .raised ?_⟩
    rw [Bool.and_eq_true, not_and_or, Bool.not_eq_true, Bool.not_eq_true] at h
    exact h

theorem Effect.of_shortFrame (bits : Fin 8) : ∃ u, exec (.shortFrame bits) s = .next u ∧ Effect s u := by
  have hnext : ∃ u, execShortFrame bits s = .next u := by
    unfold execShortFrame
    dsimp only
    split_ifs <;> exact ⟨_, rfl⟩
  obtain ⟨u, hu⟩ := hnext
  exact ⟨u, hu, .short bits hu⟩

end

/-- Every command brings about one of the events. -/
theorem exec_effect (c : Instr) (s : State) : ∃ u, exec c s = .next u ∧ Effect s u := by
  cases hf : frameOf c with
  | some f => exact ⟨_, exec_of_frameOf hf s, .frame _ f⟩
  | none =>
    cases hr : requestOf c with
    | some x => exact ⟨_, exec_of_requestOf hr s, .of_offer⟩
    | none =>
      cases c with
      | withdraw m t => exact Effect.of_withdraw s m t
      | farResponse m t st d ready => exact Effect.of_farResponse s m t st d ready
      | replyQueueSend => exact Effect.of_replyQueueSend s
      | releasedReadForwarding => exact Effect.of_releasedReadForwarding s
      | samplePeriodExpiry => exact Effect.of_samplePeriodExpiry s
      | tenureUnit => exact Effect.of_tenureUnit s
      | tenureExpiry e => exact Effect.of_tenureExpiry s e
      | hardReset => exact ⟨_, rfl, .reset⟩
      | resetRelease => exact Effect.of_resetRelease s
      | shortFrame bits => exact Effect.of_shortFrame s bits
      | refclkStops => exact ⟨_, rfl, .stopped⟩
      | refclkRunsAgain => exact ⟨_, rfl, .runs⟩
      | readRegister | writeRegister | writeControl | enableSet | enableClear | readEntry | readContext | takeNotice
      | readStatus | clearAll | releaseHolder | unknownCommand => cases hf
      | linkedRead | conditionalWrite | plainRead | plainWrite => cases hr

/-! One REFCLK period. -/

/-- Both counters have counted one period, and the moment of an earlier expiry is over. -/
def State.counted (s : State) : State :=
  { s.quiet with sampleTimer := s.sampleTimer + 1, unitCounter := s.unitCounter + 1, atExpiry := false }

/-- One more draw of a free value. -/
def State.drawn (s : State) : State := { s with draws := s.draws + 1 }

theorem State.tick_idle {s : State} (h : s.live = false) : s.tick = s.quiet := by
  have hq : s.quiet.live = false := h
  simp only [State.tick, hq, Bool.false_eq_true, if_false]

theorem State.tick_live {s : State} (h : s.live = true) :
    s.tick =
      if s.sampleLength ≤ s.sampleTimer + 1 ∧ 64 ≤ s.unitCounter + 1 then
        if Config.unitFirst s.draws then s.counted.drawn.unit.expire else s.counted.drawn.expire.unit
      else if s.sampleLength ≤ s.sampleTimer + 1 then s.counted.expire
      else if 64 ≤ s.unitCounter + 1 then s.counted.unit
      else s.counted := by
  have hq : s.quiet.live = true := h
  unfold State.tick
  dsimp only
  rw [if_pos hq]
  simp only [Bool.and_eq_true, decide_eq_true_eq]
  rfl

/-! What a step keeps. -/

/-- A step keeps the laws, and the tags distinct. -/
structure StepKept (s u : State) : Prop extends KeptLaws nowhere s u where
  tags : TagsDistinct s → TagsDistinct u

theorem Kept.stepKept {s u : State} (h : Kept nowhere s u) : StepKept s u := ⟨h.toKeptLaws, h.tagsDistinct⟩

theorem Kept.trans_stepKept {s t u : State} (h : Kept nowhere s t) (k : StepKept t u) : StepKept s u :=
  ⟨h.toKeptLaws.trans k.toKeptLaws, fun hs => k.tags (h.tagsDistinct hs)⟩

theorem StepKept.trans_kept {s t u : State} (h : StepKept s t) (k : Kept nowhere t u) : StepKept s u :=
  ⟨h.toKeptLaws.trans k.toKeptLaws, fun hs => k.tagsDistinct (h.tags hs)⟩

/-- The hard reset meets the laws with no record at all. -/
theorem State.kept_hardReset (s : State) : Kept nowhere s s.hardReset := by
  have hctx : ∀ m, s.hardReset.ctx m = Context.empty := fun m => by
    simp [State.hardReset, State.reset, State.ctx]
  have hentry : ∀ e, s.hardReset.entry e = Entry.free := fun e => by
    simp [State.hardReset, State.reset, State.entry]
  have hwin : ∀ w, s.hardReset.window w = Window.reset := fun w => by
    simp [State.hardReset, State.reset, State.window]
  have hflight : s.hardReset.flight = [] := rfl
  have hhazard : s.hardReset.hazard = [] := rfl
  have hreleased : s.hardReset.released = [] := rfl
  generalize s.hardReset = u at *
  refine ⟨⟨?_, fun i _ => ?_, fun i _ _ => ?_, fun i _ _ => ?_, fun _ => ?_⟩, fun x => ?_⟩
  · constructor
    case table =>
      refine ⟨fun w => ?_, fun w v _ hw => ?_⟩
      · rw [hwin]; exact ⟨by decide, by decide, by decide, fun h => by cases h⟩
      · rw [hwin] at hw; cases hw
    all_goals simp [hctx, hentry, OneMarkEach, hflight, hhazard, hreleased, Context.empty, Entry.free, Entry.serving,
      StatesMatch]
  · rw [hentry]; exact ⟨fun _ => rfl, fun h => absurd rfl h⟩
  · rw [hentry]; exact fun h => by cases h
  · rw [State.WaitOk, hentry]; exact fun h => absurd rfl h
  · rw [State.HazardsOk, hhazard]; simp
  · rw [State.tagCount, hflight, hreleased, hctx]; exact Nat.zero_le _

section

variable {s : State} (hs : Agree s)
include hs

theorem Agree.kept_quiet : Kept nowhere s s.quiet := s.quiet_sameRecords.kept hs

theorem Agree.kept_took : Kept nowhere s s.took := s.took_sameRecords.kept hs

/-- An event of the part, between the clearing and the setting of the outputs. -/
theorem Agree.stepKept_event {t : State} (hk : Kept nowhere s.quiet t) : StepKept s t.took :=
  (hs.kept_quiet.trans (hk.trans hk.agree.kept_took)).stepKept

/-- A frame that ends in its command byte keeps everything. -/
theorem Agree.kept_shortFrame {bits : Fin 8} {u : State} (h : execShortFrame bits s = .next u) : Kept nowhere s u := by
  have hq := hs.kept_quiet
  have hrise := hq.agree.kept_mcsRise
  have hopen := hq.trans (hrise.trans hrise.agree.kept_mcsFall)
  unfold execShortFrame at h
  dsimp only at h
  split_ifs at h
  · cases h; exact hopen.trans hopen.agree.kept_mcsRise
  · cases h
    have hbits := hopen.trans (hopen.agree.kept_updLink fun k => { k with msoBits := (bitsOf k.status).take bits.val })
    have hclosed := hbits.trans hbits.agree.kept_mcsRise
    exact hclosed.trans hclosed.agree.kept_took

/-- Every event keeps the laws and the tags. -/
theorem Agree.stepKept_effect {u : State} (htenure : ∀ i, (s.entry i).TenureOk) (h : Effect s u) : StepKept s u := by
  have hq := hs.kept_quiet
  cases h with
  | nothing => exact hq.stepKept
  | discarded => exact hs.stepKept_event (Kept.refl hq.agree _)
  | accepted r far run ready =>
    have hfree : (s.dispose r).forwards = true → s.released = [] := fun hf =>
      (((s.requestReady_iff _ _).mp ready).2.2.1 hf).2
    obtain ⟨why, -, hk⟩ | ⟨hnone, hj⟩ := hq.agree.joined_carryOut (r := r) hfree
    · exact hs.stepKept_event hk
    · have hstep : StepKept s.quiet (s.quiet.carryOut r (s.dispose r)) :=
        ⟨hj.toKeptLaws, hj.tagsDistinct (State.tagCount_of_refusal hnone)⟩
      exact (hq.trans_stepKept hstep).trans_kept hj.agree.kept_took
  | cancelled m p live parked room => exact hs.stepKept_event (State.kept_cancel hq.agree parked)
  | responded r live => exact hs.stepKept_event (State.kept_respond hq.agree r)
  | sent r rest live head =>
    have hsame : SameRecords s.quiet ({ s.quiet with replies := rest }.replied r.toNear) := by constructor <;> rfl
    exact hs.stepKept_event (hsame.kept hq.agree)
  | forwarded r live chosen =>
    refine hs.stepKept_event (State.kept_forwardRead hq.agree ?_)
    rw [State.arbiter_eq] at chosen
    obtain h | h := foldl_leastStep_mem chosen
    · cases h
    · exact (List.mem_filter.mp h).1
  | expired live => exact hs.stepKept_event (State.kept_expire hq.agree)
  | unitTaken live => exact hs.stepKept_event (hq.agree.kept_unit htenure)
  | tenureExpired e live due => exact hs.stepKept_event (hq.agree.kept_expireTenure e)
  | reset => exact (s.kept_hardReset.trans s.kept_hardReset.agree.kept_took).stepKept
  | released run held =>
    have hsame : SameRecords s { s.quiet with resetLow := false, inReset := false }.took := by constructor <;> rfl
    exact (hsame.kept hs).stepKept
  | raised still =>
    have hsame : SameRecords s { s.quiet with resetLow := false } := by constructor <;> rfl
    exact (hsame.kept hs).stepKept
  | stopped =>
    have hsame : SameRecords s { s.quiet with refclkRunning := false }.took := by constructor <;> rfl
    exact (hsame.kept hs).stepKept
  | runs =>
    have hsame : SameRecords s { s.quiet with refclkRunning := true, inReset := s.inReset && s.resetLow }.took := by
      constructor <;> rfl
    exact (hsame.kept hs).stepKept
  | frame bytes f => exact (hs.kept_frameCommand bytes f).stepKept
  | short bits h => exact (hs.kept_shortFrame h).stepKept

/-- A REFCLK period keeps the laws and the tags. -/
theorem Agree.kept_tick (htenure : ∀ i, (s.entry i).TenureOk) : Kept nowhere s s.tick := by
  have hc : ∀ d : Bool, Kept nowhere s (if d then s.counted.drawn else s.counted) := fun d => by
    have hsame : SameRecords s (if d then s.counted.drawn else s.counted) := by
      cases d <;> constructor <;> rfl
    exact hsame.kept hs
  cases hlive : s.live with
  | false => rw [State.tick_idle hlive]; exact hs.kept_quiet
  | true =>
    rw [State.tick_live hlive]
    split_ifs
    · have hu := (hc true).trans ((hc true).agree.kept_unit htenure)
      exact hu.trans (State.kept_expire hu.agree)
    · have he := (hc true).trans (State.kept_expire (hc true).agree)
      exact he.trans (he.agree.kept_unit fun i => he.tenure i (htenure i))
    · exact (hc false).trans (State.kept_expire (hc false).agree)
    · exact (hc false).trans ((hc false).agree.kept_unit htenure)
    · exact hc false

/-- Every step keeps the laws and the tags. -/
theorem Agree.stepKept_step {u : State} (htenure : ∀ i, (s.entry i).TenureOk) (h : step s = .next u) : StepKept s u := by
  unfold step at h
  split at h
  · cases h; exact (hs.kept_tick htenure).stepKept
  next c rest _ =>
    have hsame : SameRecords s { s with pending := rest } := by constructor <;> rfl
    obtain ⟨v, hv, heffect⟩ := exec_effect c { s with pending := rest }
    rw [hv] at h
    cases h
    exact (hsame.kept hs).trans_stepKept ((hsame.kept hs).agree.stepKept_effect htenure heffect)

end

/-- Settles O54: every step keeps the laws master by master, entry by entry and record by record (`Agree`), with the tenures
and the drains, which together are coherence. -/
theorem coherentKeptByStep : Obligations.CoherentKeptByStep := by
  intro s u hs hstep
  obtain ⟨hagree, htenure, -⟩ := (coherent_iff_entries s).mp hs
  exact (hagree.stepKept_step htenure hstep).coherent hs

/-- Settles O55: in a coherent state a step adds at most the tag of a request that failed no check, and serves or keeps
covered every waiter. -/
theorem tagsAndWaitersKeptByStep : Obligations.TagsAndWaitersKeptByStep := by
  intro s u hs hstep
  obtain ⟨hagree, htenure, -⟩ := (coherent_iff_entries s).mp hs
  have hk := hagree.stepKept_step htenure hstep
  exact ⟨hk.tags, hk.waitersCovered⟩

end Sys2Proof.Machine
end

section
/-! SUPPORT. Bounds: the flight list, the reply queue, the notice queue, the filters and the counters stay within theirs at
every step (O56). -/

namespace Sys2Proof.Machine

open Sys2Proof.Safety Sys2Proof.Claim

/-! Notices handed over. -/

/-- From one notice queue to another by notices that join its tail, each with room and no second UNTRACKED. -/
inductive Handed (l : List Notice) : List Notice → Prop where
  | refl : Handed l l
  | append {l' : List Notice} (n : Notice) (h : Handed l l') (room : l'.length < 16)
      (once : n.isUntracked = true → ∀ k ∈ l', k.isUntracked = false) : Handed l (l' ++ [n])

theorem Handed.trans {l l' l'' : List Notice} (h : Handed l l') (k : Handed l' l'') : Handed l l'' := by
  induction k with
  | refl => exact h
  | append n _ room once ih => exact .append n ih room once

theorem Handed.length_le {l l' : List Notice} (h : Handed l l') (hl : l.length ≤ 16) : l'.length ≤ 16 := by
  induction h with
  | refl => exact hl
  | append n _ room _ _ => simpa using room

theorem Handed.untracked_le {l l' : List Notice} (h : Handed l l') (hl : (l.filter Notice.isUntracked).length ≤ 1) :
    (l'.filter Notice.isUntracked).length ≤ 1 := by
  induction h with
  | refl => exact hl
  | @append l' n _ _ once ih =>
    rw [List.filter_append, List.length_append]
    cases hn : n.isUntracked with
    | false => simpa [hn] using ih
    | true =>
      have hnone : l'.filter Notice.isUntracked = [] := List.filter_eq_nil_iff.mpr fun k hk => by simp [once hn k hk]
      simp [hnone, hn]

/-- Notices that are handed over leave those that wait. -/
theorem Handed.ne_nil {l l' : List Notice} (h : Handed l l') (hl : l ≠ []) : l' ≠ [] := by
  induction h with
  | refl => exact hl
  | append n _ _ _ _ => simp

theorem State.notify_handed (s : State) (n : Notice) : Handed s.notices (s.notify n).notices := by
  have hskip : (s.mask.getLsbD n.kindBit = false ∨ n.isUntracked = true ∧ s.notices.any Notice.isUntracked = true) ∨
      (n.isUntracked = true → ∀ k ∈ s.notices, k.isUntracked = false) := by
    by_cases h : n.isUntracked = true ∧ s.notices.any Notice.isUntracked = true
    · exact .inl (.inr h)
    · refine .inr fun hn k hk => ?_
      by_contra hne
      exact h ⟨hn, List.any_eq_true.mpr ⟨k, hk, by simpa using hne⟩⟩
  obtain ⟨-, h⟩ | ⟨hmask, hroom, h⟩ | ⟨-, -, h⟩ := s.notify_cases n
  · rw [h]; exact .refl
  · obtain (hm | hu) | honce := hskip
    · rw [hmask] at hm; cases hm
    · have : s.notify n = s := by
        unfold State.notify
        rw [hmask, hu.1, hu.2]
        rfl
      rw [this]; exact .refl
    · rw [h]; exact .append n .refl hroom honce
  · rw [h]; exact .refl

/-! Events that keep all bounds. -/

/-- The filters and the count of an entry within their bounds (R70, R81). -/
def Entry.Bounded (x : Entry) : Prop := x.fast ≤ 61440 ∧ x.slow ≤ 61440 ∧ x.count ≤ 15

/-- From `s` to `u` notices are handed over, no reply is queued, no transaction joins the flight list, and the filters stay
within their bounds. -/
structure Within (s u : State) : Prop where
  notices : Handed s.notices u.notices
  replies : u.replies = s.replies
  flight : u.flight.length ≤ s.flight.length
  entries : ∀ e, (s.entry e).Bounded → (u.entry e).Bounded

theorem Within.refl (s : State) : Within s s := ⟨.refl, rfl, le_rfl, fun _ h => h⟩

theorem Within.trans {s t u : State} (h : Within s t) (k : Within t u) : Within s u :=
  ⟨h.notices.trans k.notices, k.replies.trans h.replies, k.flight.trans h.flight, fun e he => k.entries e (h.entries e he)⟩

theorem Within.foldl {α : Type} {f : State → α → State} (hf : ∀ s a, Within s (f s a)) (l : List α) (s : State) :
    Within s (l.foldl f s) := by
  induction l generalizing s with
  | nil => exact Within.refl s
  | cons a l ih => exact (hf s a).trans (ih _)

/-- An update that leaves the notices and the replies, the length of the flight list and the filters. -/
theorem Within.of_same {s u : State} (notices : u.notices = s.notices) (replies : u.replies = s.replies)
    (flight : u.flight.length = s.flight.length)
    (entries : ∀ e, (u.entry e).fast = (s.entry e).fast ∧ (u.entry e).slow = (s.entry e).slow ∧
      (u.entry e).count = (s.entry e).count) : Within s u where
  notices := notices ▸ .refl
  replies := replies
  flight := flight.le
  entries e h := by
    obtain ⟨hf, hs, hc⟩ := entries e
    rw [Entry.Bounded, hf, hs, hc]
    exact h

section

variable (s : State)

theorem State.within_notify (n : Notice) : Within s (s.notify n) := ⟨s.notify_handed n, by simp, by simp, fun e h => by simpa using h⟩

theorem State.within_clearReservations (p : Master → Bool) : Within s (s.clearReservations p) :=
  .of_same (by simp) (by simp) (by simp) (by simp)

theorem State.within_updEntry (e : EntryIx) (f : Entry → Entry) (hf : (s.entry e).Bounded → (f (s.entry e)).Bounded) :
    Within s (s.updEntry e f) :=
  ⟨by rw [State.updEntry_notices]; exact .refl, by simp, by simp, fun i hi => State.forall_updEntry hf i hi⟩

theorem State.within_endHolding (e : EntryIx) : Within s (s.endHolding e) := by
  cases hh : (s.entry e).holder with
  | none => rw [State.endHolding_of_none hh]; exact Within.refl s
  | some m =>
    refine .of_same (by simp) (by simp) ?_ fun i => ?_
    · simp only [State.endHolding, hh, State.hazardToQueue_flight, State.forgetHolder, List.length_map, State.clearOwn]
      split_ifs <;> simp [State.clearReservation]
    · rw [State.endHolding_entry hh]; split_ifs <;> simp

theorem State.within_attemptGrant (e : EntryIx) : Within s (s.attemptGrant e) := by
  obtain h | ⟨k, -, -, -, -, h⟩ := s.attemptGrant_cases e
  · rw [h]; exact Within.refl s
  · rw [h]
    refine .of_same (by simp) (by simp) (by simp) fun i => ?_
    rw [State.grant_entry]; split_ifs <;> simp

theorem State.within_drainExit (e : EntryIx) : Within s (s.drainExit e) := by
  obtain h | ⟨-, -, -, h⟩ := s.drainExit_cases e
  · rw [h]; exact Within.refl s
  · rw [h]; exact (s.within_updEntry e _ fun h => h).trans (State.within_notify _ _)

theorem State.within_settle (e : EntryIx) : Within s (s.settle e) :=
  (s.within_attemptGrant e).trans (State.within_drainExit _ e)

theorem State.within_releaseEntry (e : EntryIx) : Within s (s.releaseEntry e) :=
  (s.within_endHolding e).trans (State.within_settle _ e)

theorem State.within_contentionEvent (g : Granule) : Within s (s.contentionEvent g) := by
  obtain ⟨-, h⟩ | ⟨e, -, h⟩ | ⟨e, -, -, h⟩ | ⟨-, -, -, h⟩ := s.contentionEvent_cases g <;> rw [h]
  · exact Within.refl s
  · exact s.within_updEntry e _ fun ⟨hf, hv, _⟩ => ⟨hf, hv, Nat.min_le_right _ _⟩
  · exact s.within_updEntry e _ fun _ => ⟨by simp [Entry.allocated, Entry.free], by simp [Entry.allocated, Entry.free],
      by simp [Entry.allocated]⟩
  · exact s.within_notify _

theorem State.within_move (m : Master) (g : Granule) : Within s (s.move m g) := by
  have hc : Within s (s.clearReservation m) := s.within_clearReservations _
  unfold State.move
  dsimp only
  split
  · split_ifs
    · exact hc.trans (State.within_releaseEntry _ _)
    · exact hc
  · exact hc

theorem State.within_releaseHeld (m : Master) : Within s (s.releaseHeld m) := by
  unfold State.releaseHeld
  split
  · split_ifs
    · exact s.within_releaseEntry _
    · exact Within.refl s
  · exact Within.refl s

theorem State.within_park (r : Request) (g : Granule) (why : ParkReason) : Within s (s.park r g why) :=
  .of_same (by simp) (by simp) (by simp) (by simp)

theorem State.within_joinQueue (r : Request) (g : Granule) (e : EntryIx) : Within s (s.joinQueue r g e) :=
  (s.within_park r g _).trans ((State.within_updEntry _ e _ fun h => h).trans
    ((State.within_contentionEvent _ g).trans (State.within_attemptGrant _ e)))

theorem State.within_releaseHazards : Within s s.releaseHazards := .of_same (by simp) (by simp) (by simp) (by simp)

theorem State.within_writeRemoval (r : GranuleRange) : Within s (s.writeRemoval r) := by
  unfold State.writeRemoval State.grantsIn
  refine s.within_releaseHazards.trans (Within.foldl (fun s e => ?_) entryIxs _)
  split_ifs
  · exact s.within_attemptGrant e
  · exact Within.refl s

theorem State.within_readFailed (m : Master) (armed : Bool) (h : Option EntryIx) : Within s (s.readFailed m armed h) := by
  have hc : Within s (if armed then s.clearReservation m else s) := by
    split_ifs
    · exact s.within_clearReservations _
    · exact Within.refl s
  unfold State.readFailed
  dsimp only
  generalize (if armed then s.clearReservation m else s) = t at hc ⊢
  cases h with
  | none => exact hc
  | some e =>
    dsimp only
    split_ifs
    · exact hc.trans (t.within_releaseEntry e)
    · exact hc

theorem State.within_dropFlight (f : Flight) : Within s (s.dropFlight f) :=
  ⟨.refl, rfl, (List.erase_sublist).length_le, fun _ h => h⟩

theorem State.within_remove (f : Flight) (st : FarStatus) : Within s (s.remove f st) := by
  have ht : Within s (if st = .error then (s.dropFlight f).notify (.memoryError f.master f.tag f.address)
      else s.dropFlight f) := by
    split_ifs
    · exact (s.within_dropFlight f).trans (State.within_notify _ _)
    · exact s.within_dropFlight f
  rw [State.remove_eq]
  dsimp only
  generalize (if st = .error then (s.dropFlight f).notify (.memoryError f.master f.tag f.address)
      else s.dropFlight f) = t at ht ⊢
  split
  · split_ifs
    · exact ht.trans (t.within_readFailed _ _ _)
    · exact ht
  · exact ht.trans (t.within_writeRemoval _)

theorem State.within_respond (r : FarResponse) : Within s (s.respond r) := by
  have hr : Within (s.settleResponse r) (s.respond r) := .of_same rfl rfl rfl fun _ => ⟨rfl, rfl, rfl⟩
  refine Within.trans ?_ hr
  unfold State.settleResponse
  split
  · exact s.within_remove _ _
  · split_ifs
    · exact .of_same (by simp) (by simp) (by simp) (by simp)
    · exact Within.refl s

/-- The filters stay within their bounds at an expiry (R81). -/
theorem Entry.bounded_sampled {x : Entry} (w : Window) (h : x.Bounded) : (x.sampled w).Bounded := by
  obtain ⟨hf, hv, hc⟩ := h
  have ht : target x.count ≤ 61440 := by unfold target; omega
  have hslow : nextSlow x.slow (target x.count) ≤ 61440 := by
    unfold nextSlow ceilDiv; split_ifs <;> omega
  have hfast : nextFast w.decay x.fast (target x.count) ≤ 61440 := by
    unfold nextFast ceilDiv
    split_ifs
    · omega
    · exact (Nat.sub_le _ _).trans hf
  refine ⟨hfast, ?_, Nat.zero_le _⟩
  show (if x.serving && w.autoGate then x.slow else nextSlow x.slow (target x.count)) ≤ 61440
  split_ifs
  · exact hv
  · exact hslow

theorem State.within_takeOver (e : EntryIx) : Within s (s.takeOver e) := by
  refine ⟨?_, ?_, ?_, fun i hi => ?_⟩
  · simp [State.takeOver, State.turnHot, Handed.refl]
  · simp [State.takeOver, State.turnHot]
  · simp [State.takeOver, State.turnHot]
  · rw [State.takeOver_entry]
    split_ifs with h
    · subst h; exact Entry.bounded_sampled _ hi
    · exact hi

theorem State.within_processEntry (e : EntryIx) : Within s (s.processEntry e) := by
  have hy : ∀ y : Entry, y.fast = (sampledNow s e).fast → y.slow = (sampledNow s e).slow →
      y.count = (sampledNow s e).count → Within s (s.updEntry e fun _ => y) := fun y hf hv hc =>
    s.within_updEntry e _ fun h => by
      rw [Entry.Bounded, hf, hv, hc]
      exact Entry.bounded_sampled _ h
  have hstate : ∀ m, Within s (s.updEntry e fun _ => { sampledNow s e with state := m }) := fun m => hy _ rfl rfl rfl
  cases h : (s.entry e).state with
  | free => rw [State.processEntry_free s e h]; exact Within.refl s
  | watch =>
    cases hhot : (sampledNow s e).hot with
    | true =>
      rw [State.processEntry_hot s e h hhot]
      exact (s.within_takeOver e).trans ((State.within_notify _ _).trans (State.within_attemptGrant _ e))
    | false =>
      by_cases hr : retiresNow s e
      · rw [State.processEntry_retire s e hr]
        exact s.within_updEntry e _ fun _ => ⟨by simp [Entry.free], by simp [Entry.free], by simp [Entry.free]⟩
      · rw [State.processEntry_watch s e h hhot hr]; exact hy _ rfl rfl rfl
  | queued =>
    cases hhot : (sampledNow s e).hot with
    | true => rw [State.processEntry_queued s e h hhot]; exact hy _ rfl rfl rfl
    | false =>
      by_cases hserves : (s.entry e).holder ≠ none ∨ (s.entry e).queue ≠ []
      · rw [State.processEntry_toDrain s e h hhot hserves]; exact hstate _
      · push Not at hserves
        rw [State.processEntry_cool s e h hhot hserves.1 hserves.2]
        exact (hstate _).trans (State.within_notify _ _)
  | drain =>
    cases hhot : (sampledNow s e).hot with
    | true => rw [State.processEntry_reheat s e h hhot]; exact hstate _
    | false => rw [State.processEntry_drain s e h hhot]; exact hy _ rfl rfl rfl

theorem State.within_expire : Within s s.expire := by
  have hstart : Within s { s with
      sampleTimer := 0, sampleLength := Config.samplePeriod s.sampleCode, atExpiry := true } :=
    .of_same rfl rfl rfl fun _ => ⟨rfl, rfl, rfl⟩
  exact hstart.trans (Within.foldl State.within_processEntry entryIxs _)

theorem State.within_expireTenure (e : EntryIx) : Within s (s.expireTenure e) := by
  unfold State.expireTenure
  split
  · exact Within.refl s
  · exact (s.within_endHolding e).trans ((State.within_notify _ _).trans (State.within_settle _ e))

theorem State.within_unit : Within s s.unit := by
  have hc : Within s s.countdown := by
    refine .of_same (by simp [State.countdown]) (by simp [State.countdown]) (by simp [State.countdown]) fun i => ?_
    rw [State.countdown_entry]; split_ifs <;> simp
  rw [State.unit_eq]
  exact hc.trans (Within.foldl State.within_expireTenure s.due _)

theorem State.within_dissolve (p : WindowIx → Bool) : Within s (s.dissolve p) := by
  refine ⟨by simp [Handed.refl], by simp, by simp [State.dissolve_flight], fun i hi => ?_⟩
  rw [State.dissolve_entry]
  split_ifs
  · exact ⟨by simp [Entry.free], by simp [Entry.free], by simp [Entry.free]⟩
  · exact hi

end

end Sys2Proof.Machine
end

section
/-! SUPPORT. Every step keeps the bounds (O56): near port, far port, link and timebase put together. -/

namespace Sys2Proof.Machine

open Sys2Proof.Safety Sys2Proof.Claim

/-- The bounds of the lists, the filters, the timebase, the reply queue and the notices hold at `u` when they held at `s`. -/
structure StaysBounded (s u : State) : Prop where
  lists : ListsBounded s → ListsBounded u
  filters : FiltersBounded s → FiltersBounded u
  timebase : TimebaseBounded s → TimebaseBounded u
  replies : RepliesOwn s → RepliesOwn u
  untracked : UntrackedOnce s → UntrackedOnce u

theorem StaysBounded.trans {s t u : State} (h : StaysBounded s t) (k : StaysBounded t u) : StaysBounded s u :=
  ⟨k.lists ∘ h.lists, k.filters ∘ h.filters, k.timebase ∘ h.timebase, k.replies ∘ h.replies, k.untracked ∘ h.untracked⟩

theorem StaysBounded.refl (s : State) : StaysBounded s s := ⟨id, id, id, id, id⟩

/-- The counters of the timebase, its running length and the mark of an expiry's moment stay. -/
structure SameClock (s u : State) : Prop where
  sampleTimer : u.sampleTimer = s.sampleTimer
  sampleLength : u.sampleLength = s.sampleLength
  atExpiry : u.atExpiry = s.atExpiry
  unitCounter : u.unitCounter = s.unitCounter

theorem SameClock.timebase {s u : State} (h : SameClock s u) (hs : TimebaseBounded s) : TimebaseBounded u := by
  rw [TimebaseBounded, h.sampleTimer, h.sampleLength, h.atExpiry, h.unitCounter]
  exact hs

/-- What keeps notices, replies, flight list and filters within their bounds, and the timebase. -/
theorem Within.staysBounded {s u : State} (h : Within s u) (clock : TimebaseBounded s → TimebaseBounded u) :
    StaysBounded s u where
  lists := fun ⟨hf, hr, hn⟩ => ⟨h.flight.trans hf, h.replies ▸ hr, h.notices.length_le hn⟩
  filters hs e := h.entries e (hs e)
  timebase := clock
  replies hs := by rw [RepliesOwn, h.replies]; exact hs
  untracked := h.notices.untracked_le

/-- An update of records that no bound speaks of. -/
theorem StaysBounded.of_same {s u : State} (notices : u.notices = s.notices) (replies : u.replies = s.replies)
    (flight : u.flight = s.flight) (contention : u.contention = s.contention) (clock : SameClock s u) : StaysBounded s u :=
  (Within.of_same notices replies (congrArg _ flight)
    fun e => by rw [State.entry_congr contention e]; exact ⟨rfl, rfl, rfl⟩).staysBounded clock.timebase

/-! The near port. -/

section

variable (s : State)

theorem State.within_clearRange (r : GranuleRange) : Within s (s.clearRange r) := s.within_clearReservations _

theorem State.within_forwarded (r : FarRequest) : Within s (s.forwarded r) := .of_same rfl rfl rfl fun _ => ⟨rfl, rfl, rfl⟩

/-- What an acceptance adds: a reply of the part's own, or a transaction, and notices. -/
structure Accepted (r : Request) (d : Disposition) (u : State) : Prop where
  notices : Handed s.notices u.notices
  replies : u.replies = s.replies ∨
    ∃ st, (st = .seqerr ∨ st = .exfail) ∧ u.replies = s.replies ++ [{ master := r.master, tag := r.tag, status := st }]
  flight : u.flight.length ≤ s.flight.length ∨ d.tracked = true ∧ u.flight.length ≤ s.flight.length + 1
  entries : ∀ e, (s.entry e).Bounded → (u.entry e).Bounded

end

section

variable {s : State} {r : Request} {d : Disposition}

theorem Within.accepted {u : State} (h : Within s u) : Accepted s r d u :=
  ⟨h.notices, .inl h.replies, .inl h.flight, h.entries⟩

/-- An acceptance that joins the flight list. -/
theorem Within.accepted_track {t u : State} (h : Within s t) (f : Flight) (k : Within (t.track f) u)
    (hd : d.tracked = true) : Accepted s r d u where
  notices := h.notices.trans k.notices
  replies := .inl (k.replies.trans h.replies)
  flight := .inr ⟨hd, k.flight.trans (by simpa using h.flight)⟩
  entries e he := k.entries e (h.entries e he)

/-- An acceptance that joins the flight list, field by field. -/
theorem Within.accepted_join {t u : State} (h : Within s t) (notices : u.notices = t.notices) (replies : u.replies = t.replies)
    (flight : u.flight.length = t.flight.length + 1) (entries : ∀ e, u.entry e = t.entry e) (hd : d.tracked = true) :
    Accepted s r d u where
  notices := notices ▸ h.notices
  replies := .inl (replies.trans h.replies)
  flight := .inr ⟨hd, flight ▸ Nat.add_le_add_right h.flight 1⟩
  entries e he := entries e ▸ h.entries e he

/-- An acceptance that queues a reply. -/
theorem Within.accepted_enqueue {t : State} {st : ReplyStatus} (h : Within s t) (hst : st = .seqerr ∨ st = .exfail) :
    Accepted s r d (t.enqueue r.master r.tag st) where
  notices := h.notices
  replies := .inr ⟨st, hst, by rw [State.enqueue_replies, h.replies]⟩
  flight := .inl h.flight
  entries := h.entries

theorem State.carryOut_refused (s : State) (r : Request) (why : Reason) : s.carryOut r (.refused why) =
    (s.enqueue r.master r.tag .seqerr).notify (.protocol r.master r.tag r.address why) := rfl

theorem State.carryOut_forwardPlain (s : State) (r : Request) : s.carryOut r .forwardPlain = s.forwarded r.toFar := rfl

theorem State.carryOut_forwardNomon (s : State) (r : Request) :
    s.carryOut r .forwardNomon = (s.setNomon r.master r.tag true).forwarded r.toFar := rfl

theorem State.carryOut_forwardWrite (s : State) (r : Request) (w : WindowIx) : s.carryOut r (.forwardWrite w) =
    ((s.clearRange (s.writeRange w r.address r.size)).track
      ⟨.write, r.master, r.tag, r.address, s.writeRange w r.address r.size⟩).forwarded r.toFar := rfl

theorem State.carryOut_forwardLinked (s : State) (r : Request) (g : Granule) (h : Option EntryIx) :
    s.carryOut r (.forwardLinked g h) =
      ((s.move r.master g).arm r.master r.tag r.address g h).forwarded r.toFar := rfl

theorem State.carryOut_parkHazard (s : State) (r : Request) (g : Granule) : s.carryOut r (.parkHazard g) =
    { (s.move r.master g).park r g .hazard with hazard := (s.move r.master g).hazard ++ [r.master] } := by
  simp only [State.carryOut, State.park_hazard]

theorem State.carryOut_joinQueue (s : State) (r : Request) (g : Granule) (e : EntryIx) :
    s.carryOut r (.joinQueue g e) = (s.move r.master g).joinQueue r g e := rfl

theorem State.carryOut_exfailOutside (s : State) (r : Request) :
    s.carryOut r .exfailOutside = s.enqueue r.master r.tag .exfail := rfl

theorem State.carryOut_writePasses (s : State) (r : Request) (g : Granule) :
    s.carryOut r (.writePasses g) = (s.passWrite r g).forwarded r.toFar := rfl

theorem State.carryOut_writeFails (s : State) (r : Request) (g : Granule) : s.carryOut r (.writeFails g) = s.failWrite r g := rfl

/-- The records of a passing conditional write before its holder release. -/
def State.consume (s : State) (r : Request) (g : Granule) : State :=
  ((s.clearReservation r.master).clearRange (s.rangeOf g)).track
    ⟨.cwrite, r.master, r.tag, r.address,
      ((s.clearReservation r.master).clearRange (s.rangeOf g)).rangeOf g⟩

theorem State.passWrite_eq (s : State) (r : Request) (g : Granule) :
    s.passWrite r g =
      match (s.consume r g).heldEntry r.master g with
      | some e => (s.consume r g).releaseEntry e
      | none => s.consume r g := rfl

theorem State.accepted_carryOut (s : State) (r : Request) (d : Disposition) : Accepted s r d (s.carryOut r d) := by
  have hclear : Within s (s.clearReservation r.master) := s.within_clearReservations _
  cases d with
  | refused why =>
    have h : Accepted s r (.refused why) (s.enqueue r.master r.tag .seqerr) := (Within.refl s).accepted_enqueue (.inl rfl)
    exact ⟨h.notices.trans (State.notify_handed _ _), by simp [State.carryOut],
      by simp [State.carryOut], fun e he => by simpa [State.carryOut] using h.entries e he⟩
  | forwardPlain => exact (s.within_forwarded _).accepted
  | forwardNomon =>
    have hset : Within s (s.setNomon r.master r.tag true) := .of_same (by simp) (by simp) (by simp) (by simp)
    rw [State.carryOut_forwardNomon]
    exact (hset.trans (State.within_forwarded _ _)).accepted
  | forwardWrite w =>
    rw [State.carryOut_forwardWrite]
    exact (s.within_clearRange _).accepted_track _ (State.within_forwarded _ _) rfl
  | forwardLinked g h =>
    rw [State.carryOut_forwardLinked]
    have hm := s.within_move r.master g
    generalize s.move r.master g = t at hm
    exact hm.accepted_join (by simp) (by simp) (by simp [State.arm_flight, unmarked]) (fun e => by simp) rfl
  | parkHazard g =>
    rw [State.carryOut_parkHazard]
    have hm := (s.within_move r.master g).trans (State.within_park _ r g .hazard)
    generalize (s.move r.master g).hazard ++ [r.master] = l
    generalize (s.move r.master g).park r g .hazard = t at hm
    exact Within.accepted ⟨hm.notices, hm.replies, hm.flight, fun e he => by simpa using hm.entries e he⟩
  | joinQueue g e =>
    rw [State.carryOut_joinQueue]
    exact ((s.within_move _ _).trans (State.within_joinQueue _ _ _ _)).accepted
  | exfailOutside => exact (Within.refl s).accepted_enqueue (.inr rfl)
  | writePasses g =>
    have ht : Within s ((s.clearReservation r.master).clearRange (s.rangeOf g)) :=
      hclear.trans (State.within_clearRange _ _)
    rw [State.carryOut_writePasses, State.passWrite_eq]
    unfold State.consume
    generalize (s.clearReservation r.master).clearRange (s.rangeOf g) = t at ht
    split
    · exact ht.accepted_track _ ((State.within_releaseEntry _ _).trans (State.within_forwarded _ _)) rfl
    · exact ht.accepted_track _ (State.within_forwarded _ _) rfl
  | writeFails g =>
    rw [State.carryOut_writeFails]
    exact (hclear.trans ((State.within_contentionEvent _ g).trans (State.within_releaseHeld _ _))).accepted_enqueue (.inr rfl)

/-- An acceptance within its needs keeps the bounds. -/
theorem State.staysBounded_carryOut (s : State) (r : Request) (hroom : s.replies.length < 4)
    (hlist : d.tracked = true → s.flight.length < 24) : StaysBounded s (s.carryOut r d) := by
  have h := s.accepted_carryOut r d
  have hclock : SameClock s (s.carryOut r d) := by constructor <;> simp
  constructor
  case lists =>
    rintro ⟨hf, hr, hn⟩
    refine ⟨?_, ?_, h.notices.length_le hn⟩
    · obtain hle | ⟨htracked, hle⟩ := h.flight
      · omega
      · have := hlist htracked; omega
    · obtain hsame | ⟨st, -, hnew⟩ := h.replies
      · rw [hsame]; exact hr
      · rw [hnew, List.length_append, List.length_singleton]; omega
  case filters => exact fun hs e => h.entries e (hs e)
  case timebase => exact hclock.timebase
  case replies =>
    intro hs
    obtain hsame | ⟨st, hst, hnew⟩ := h.replies
    · rw [RepliesOwn, hsame]; exact hs
    · rw [RepliesOwn, hnew]
      intro q hq
      obtain hq | hq := List.mem_append.mp hq
      · exact hs q hq
      · rw [List.mem_singleton.mp hq]
        obtain rfl | rfl := hst
        · exact .inl rfl
        · exact .inr (.inl rfl)
  case untracked => exact h.notices.untracked_le

end

end Sys2Proof.Machine
end

section
/-! SUPPORT. The bounds along withdrawals, the arbiter, the link and the timebase; every step keeps them (O56). -/

namespace Sys2Proof.Machine

open Sys2Proof.Safety Sys2Proof.Claim

section

variable {s : State}

/-- A withdrawal queues CANCELLED, and may hand a notice over. -/
theorem State.cancel_adds (s : State) (m : Master) (p : Parked) :
    (s.cancel m p).replies = s.replies ++ [{ master := m, tag := p.tag, status := .cancelled }] ∧
      Handed s.notices (s.cancel m p).notices ∧ ∀ e, (s.entry e).Bounded → ((s.cancel m p).entry e).Bounded := by
  cases hr : p.reason with
  | hazard => rw [State.cancel_hazard s m hr]; simp [State.unpark, Handed.refl]
  | queue e =>
    rw [State.cancel_queue s m hr]
    have hd := ((State.within_updEntry (s.unpark m p.tag) e (fun x =>
      { x with queue := x.queue.filter fun i => decide (i ≠ m) }) fun h => h).trans (State.within_drainExit _ e))
    refine ⟨hd.replies.trans (by simp [State.unpark]), ?_, fun i hi => hd.entries i (by simpa using hi)⟩
    have hsame : (s.unpark m p.tag).notices = s.notices := by simp [State.unpark]
    have hnotices := hd.notices
    rw [hsame] at hnotices
    exact hnotices

/-- A withdrawal queues CANCELLED where the reply queue has room. -/
theorem State.staysBounded_cancel (m : Master) (p : Parked) (hroom : s.replies.length < 4) :
    StaysBounded s (s.cancel m p) := by
  have hclock : SameClock s (s.cancel m p) := by constructor <;> simp
  obtain ⟨hreplies, hnotices, hentries⟩ := s.cancel_adds m p
  constructor
  case lists =>
    rintro ⟨hf, hr, hn⟩
    refine ⟨by simpa using hf, ?_, hnotices.length_le hn⟩
    rw [hreplies, List.length_append, List.length_singleton]
    exact hroom
  case filters => exact fun hs e => hentries e (hs e)
  case timebase => exact hclock.timebase
  case replies =>
    intro hs q hq
    rw [hreplies] at hq
    obtain hq | hq := List.mem_append.mp hq
    · exact hs q hq
    · rw [List.mem_singleton.mp hq]; exact .inr (.inr rfl)
  case untracked => exact hnotices.untracked_le

theorem State.arbiter_mem {r : Released} (h : s.arbiter = some r) : r ∈ s.released ∧ s.mayForward r = true := by
  rw [State.arbiter_eq] at h
  obtain h | h := foldl_leastStep_mem h
  · cases h
  · exact List.mem_filter.mp h

/-- The read that the arbiter forwards has a place in the flight list, or needs none. -/
theorem State.staysBounded_forwardRead {r : Released} (h : s.arbiter = some r) : StaysBounded s (s.forwardRead r) := by
  have hclock : SameClock s (s.forwardRead r) := by constructor <;> simp
  have hentries : ∀ e, (s.forwardRead r).entry e = s.entry e := fun e => by simp
  have hflight : (s.forwardRead r).flight.length ≤ s.flight.length ∨
      s.flight.length < 24 ∧ (s.forwardRead r).flight.length = s.flight.length + 1 := by
    have hroom := (State.arbiter_mem h).2
    rw [State.mayForward, Bool.or_eq_true, decide_eq_true_eq, State.flightRoom_iff] at hroom
    cases hmode : r.mode with
    | arm e =>
      rw [State.forwardRead_arm s hmode]
      exact .inr ⟨hroom.resolve_left (by simp [hmode]), by simp [State.arm_flight, unmarked, State.dropReleased]⟩
    | disarmed =>
      rw [State.forwardRead_disarmed s hmode]
      exact .inr ⟨hroom.resolve_left (by simp [hmode]), by simp [State.dropReleased]⟩
    | plain =>
      rw [State.forwardRead_plain s hmode]
      exact .inl (by simp [State.dropReleased])
  constructor
  case lists =>
    rintro ⟨hf, hr, hn⟩
    refine ⟨by omega, by simpa using hr, by simpa using hn⟩
  case filters => exact fun hs e => by rw [hentries]; exact hs e
  case timebase => exact hclock.timebase
  case replies => exact fun hs => by rw [RepliesOwn, State.forwardRead_replies]; exact hs
  case untracked => exact fun hs => by rw [UntrackedOnce, State.forwardRead_notices]; exact hs

end

/-! The link. -/

section

variable (s : State)

theorem State.staysBounded_updLink (f : Link → Link) : StaysBounded s (s.updLink f) :=
  .of_same rfl rfl rfl rfl ⟨rfl, rfl, rfl, rfl⟩

theorem State.staysBounded_refuse : StaysBounded s s.refuse := .of_same rfl rfl rfl rfl ⟨rfl, rfl, rfl, rfl⟩

theorem State.staysBounded_updWindow (w : WindowIx) (f : Window → Window) : StaysBounded s (s.updWindow w f) :=
  .of_same rfl rfl rfl rfl ⟨rfl, rfl, rfl, rfl⟩

theorem State.staysBounded_dissolve (p : WindowIx → Bool) : StaysBounded s (s.dissolve p) :=
  (s.within_dissolve p).staysBounded (SameClock.timebase (by constructor <;> simp))

theorem Config.samplePeriod_pos (code : BitVec 2) : 0 < Config.samplePeriod code := by
  unfold Config.samplePeriod
  positivity

theorem State.staysBounded_setControl (v : Word32) : StaysBounded s (s.setControl v) := by
  refine Within.staysBounded (.of_same rfl rfl rfl fun _ => ⟨rfl, rfl, rfl⟩) fun ⟨htimer, hunit, hat⟩ => ⟨?_, hunit, hat⟩
  show s.sampleTimer < if s.atExpiry then Config.samplePeriod (v.extractLsb' 4 2) else s.sampleLength
  split_ifs with h
  · rw [hat h]; exact Config.samplePeriod_pos _
  · exact htimer

theorem State.staysBounded_writeEnable (w : WindowIx) (v : Word32) : StaysBounded s (s.writeEnable w v) := by
  have hd : StaysBounded s (if s.active w then s.dissolve fun i => decide (i = w) else s) := by
    split_ifs
    · exact s.staysBounded_dissolve _
    · exact StaysBounded.refl s
  unfold State.writeEnable
  dsimp only
  generalize (if s.active w then s.dissolve fun i => decide (i = w) else s) = t at hd
  split_ifs
  · exact StaysBounded.refl s
  · exact s.staysBounded_updWindow _ _
  · exact s.staysBounded_refuse
  · exact hd.trans (t.staysBounded_updWindow _ _)

theorem State.staysBounded_writeRegister (a : Byte) (v : Word32) : StaysBounded s (s.writeRegister a v) := by
  unfold State.writeRegister
  split
  · exact s.staysBounded_refuse
  · exact s.staysBounded_refuse
  · rw [State.writeControl_eq]
    split_ifs
    · exact (s.staysBounded_dissolve _).trans (State.staysBounded_setControl _ v)
    · exact s.staysBounded_setControl v
  · unfold State.writeBase
    split_ifs
    · exact s.staysBounded_refuse
    · exact s.staysBounded_updWindow _ _
  · unfold State.writeShape
    split_ifs
    · exact s.staysBounded_refuse
    · exact s.staysBounded_updWindow _ _
  · unfold State.writeLimits
    split_ifs
    · exact s.staysBounded_refuse
    · exact s.staysBounded_updWindow _ _
  · exact s.staysBounded_writeEnable _ v

theorem State.staysBounded_clearAll : StaysBounded s s.clearAll := by
  have hd := s.staysBounded_dissolve fun _ => true
  unfold State.clearAll
  generalize s.dissolve (fun _ => true) = t at hd
  exact hd.trans ⟨fun ⟨hf, hr, _⟩ => ⟨hf, hr, Nat.zero_le _⟩, id, id, id, fun _ => Nat.zero_le _⟩

theorem State.staysBounded_releaseEntry (e : EntryIx) : StaysBounded s (s.releaseEntry e) :=
  (s.within_releaseEntry e).staysBounded (SameClock.timebase (by constructor <;> simp))

theorem State.staysBounded_returns (l : List Byte) : StaysBounded s (s.returns l) := s.staysBounded_updLink _

theorem State.staysBounded_refused_returns (l : List Byte) : StaysBounded s (s.refuse.returns l) :=
  s.staysBounded_refuse.trans (s.refuse.staysBounded_returns l)

theorem State.staysBounded_commandByte (b : Byte) : StaysBounded s (s.commandByte b) := by
  have hk := s.staysBounded_updLink fun k => { k with command := decodeCommand b }
  unfold State.commandByte
  dsimp only
  generalize s.updLink (fun k => { k with command := decodeCommand b }) = t at hk
  refine hk.trans ?_
  split
  · exact t.staysBounded_refuse.trans (State.staysBounded_updLink _ _)
  · exact (t.staysBounded_updLink _).trans (State.staysBounded_returns _ _)
  · exact .of_same rfl rfl rfl rfl ⟨rfl, rfl, rfl, rfl⟩
  · exact t.staysBounded_clearAll.trans (State.staysBounded_updLink _ _)
  · exact t.staysBounded_updLink _

theorem State.staysBounded_argumentByte (b : Byte) : StaysBounded s (s.argumentByte b) := by
  unfold State.argumentByte
  split
  · unfold State.askRegister
    split
    · exact s.staysBounded_returns _
    · exact s.staysBounded_refused_returns _
  · exact s.staysBounded_updLink _
  · unfold State.askEntry
    split_ifs
    · exact s.staysBounded_returns _
    · exact s.staysBounded_refused_returns _
  · unfold State.askContext
    split_ifs
    · exact s.staysBounded_returns _
    · exact s.staysBounded_refused_returns _
  · refine StaysBounded.trans ?_ (State.staysBounded_updLink _ _)
    unfold State.releaseHolder
    split_ifs
    · exact s.staysBounded_releaseEntry _
    · exact s.staysBounded_refuse
    · exact s.staysBounded_refuse
  · exact s.staysBounded_updLink _

theorem State.staysBounded_dataByte (b : Byte) : StaysBounded s (s.dataByte b) := by
  unfold State.dataByte
  split
  · exact (s.staysBounded_writeRegister _ _).trans (State.staysBounded_updLink _ _)
  · exact s.staysBounded_updLink _

/-- The removal of the notice returned leaves the others. -/
theorem State.staysBounded_finishReturn : StaysBounded s s.finishReturn := by
  unfold State.finishReturn
  split
  · split_ifs
    · refine ⟨fun ⟨hf, hr, hn⟩ => ⟨hf, hr, ?_⟩, id, id, id, fun hu => ?_⟩
      · exact (List.tail_sublist _).length_le.trans hn
      · exact ((List.tail_sublist _).filter _).length_le.trans hu
    · exact StaysBounded.refl s
  · exact .of_same rfl rfl rfl rfl ⟨rfl, rfl, rfl, rfl⟩
  · exact StaysBounded.refl s

theorem State.staysBounded_returnByte : StaysBounded s s.returnByte := by
  have hk := s.staysBounded_updLink fun k => { k with shiftOut := k.shiftOut.tail }
  unfold State.returnByte
  dsimp only
  split_ifs
  · exact hk.trans ((State.staysBounded_finishReturn _).trans (State.staysBounded_updLink _ _))
  · exact hk

theorem State.staysBounded_linkByte (b : Byte) : StaysBounded s (s.linkByte b) := by
  unfold State.linkByte
  split_ifs
  · exact StaysBounded.refl s
  · have hk := s.staysBounded_updLink fun k => { k with mso := k.mso ++ [k.outByte], done := k.done + 1 }
    dsimp only
    generalize s.updLink (fun k => { k with mso := k.mso ++ [k.outByte], done := k.done + 1 }) = t at hk
    refine hk.trans ?_
    split_ifs
    · exact t.staysBounded_updLink _
    · split
      · exact t.staysBounded_commandByte b
      · exact t.staysBounded_argumentByte b
      · exact t.staysBounded_dataByte b
      · exact t.staysBounded_returnByte
      · exact StaysBounded.refl t
      · exact StaysBounded.refl t

theorem State.staysBounded_mcsFall : StaysBounded s s.mcsFall := by
  unfold State.mcsFall
  split_ifs
  · exact StaysBounded.refl s
  · exact s.staysBounded_updLink _
  · exact s.staysBounded_updLink _

theorem State.staysBounded_mcsRise : StaysBounded s s.mcsRise := s.staysBounded_updLink _

theorem State.staysBounded_clockBytes (frame : List Byte) (n : Nat) : StaysBounded s (s.clockBytes frame n) := by
  induction n generalizing s with
  | zero => exact StaysBounded.refl s
  | succ n ih => exact (s.staysBounded_linkByte _).trans (ih _)

theorem State.staysBounded_quiet : StaysBounded s s.quiet := .of_same rfl rfl rfl rfl ⟨rfl, rfl, rfl, rfl⟩

theorem State.staysBounded_took : StaysBounded s s.took := .of_same rfl rfl rfl rfl ⟨rfl, rfl, rfl, rfl⟩

theorem State.staysBounded_runFrame (frame : List Byte) (f : Frame) : StaysBounded s (s.runFrame frame f) := by
  have hstart : StaysBounded s (if f.starts then s.mcsRise.mcsFall else s) := by
    split_ifs
    · exact s.staysBounded_mcsRise.trans (State.staysBounded_mcsFall _)
    · exact StaysBounded.refl s
  have hclock := hstart.trans (State.staysBounded_clockBytes _ frame f.bytes)
  unfold State.runFrame
  dsimp only
  by_cases hends : f.ends = true
  · rw [if_pos hends]; exact hclock.trans (State.staysBounded_mcsRise _)
  · rw [if_neg hends]; exact hclock

theorem State.staysBounded_frameCommand (frame : List Byte) (f : Frame) : StaysBounded s (s.frameCommand frame f) := by
  have hrun := s.staysBounded_quiet.trans (s.quiet.staysBounded_runFrame frame f)
  unfold State.frameCommand
  dsimp only
  split_ifs
  · exact hrun
  · exact hrun.trans (State.staysBounded_took _)

theorem State.staysBounded_shortFrame {s u : State} {bits : Fin 8} (h : execShortFrame bits s = .next u) :
    StaysBounded s u := by
  have hopen := s.staysBounded_quiet.trans (s.quiet.staysBounded_mcsRise.trans (State.staysBounded_mcsFall _))
  unfold execShortFrame at h
  dsimp only at h
  split_ifs at h
  · cases h; exact hopen.trans (State.staysBounded_mcsRise _)
  · cases h
    exact hopen.trans ((State.staysBounded_updLink _ _).trans
      ((State.staysBounded_mcsRise _).trans (State.staysBounded_took _)))

/-! The timebase. -/

theorem State.staysBounded_expire : StaysBounded s s.expire := by
  obtain ⟨htimer, hlength, -⟩ := s.expire_timebase
  refine s.within_expire.staysBounded fun ⟨_, hunit, _⟩ => ⟨?_, by simpa using hunit, fun _ => htimer⟩
  rw [htimer, hlength]
  exact Config.samplePeriod_pos _

theorem State.unit_unitCounter : s.unit.unitCounter = 0 := by
  rw [State.unit_eq]
  exact foldl_keeps State.unitCounter (fun a e => by simp) _ _

theorem State.staysBounded_unit : StaysBounded s s.unit := by
  refine s.within_unit.staysBounded fun ⟨htimer, _, hat⟩ => ⟨by simpa using htimer, ?_, by simpa using hat⟩
  rw [State.unit_unitCounter]
  decide

theorem State.staysBounded_hardReset : StaysBounded s s.hardReset := by
  refine ⟨fun _ => ⟨?_, ?_, ?_⟩, fun _ e => ?_, fun _ => ⟨?_, ?_, ?_⟩, fun _ r hr => ?_, fun _ => ?_⟩
  · exact Nat.zero_le _
  · exact Nat.zero_le _
  · exact Nat.zero_le _
  · have : s.hardReset.entry e = Entry.free := by simp [State.hardReset, State.reset, State.entry]
    rw [this]
    exact ⟨by simp [Entry.free], by simp [Entry.free], by simp [Entry.free]⟩
  · exact Config.samplePeriod_pos _
  · exact Nat.zero_lt_succ _
  · exact fun h => by cases h
  · simp [State.hardReset, State.reset] at hr
  · exact Nat.zero_le _

end

/-- Every event keeps the bounds. -/
theorem Effect.staysBounded {s u : State} (h : Effect s u) : StaysBounded s u := by
  have hq := s.staysBounded_quiet
  cases h with
  | nothing => exact hq
  | discarded => exact hq.trans (State.staysBounded_took _)
  | accepted r far run ready =>
    obtain ⟨-, hroom, -, hlist⟩ := (s.requestReady_iff _ _).mp ready
    exact hq.trans ((s.quiet.staysBounded_carryOut r hroom hlist).trans (State.staysBounded_took _))
  | cancelled m p live parked room => exact hq.trans ((State.staysBounded_cancel (s := s.quiet) m p room).trans (State.staysBounded_took _))
  | responded r live =>
    exact hq.trans (((s.quiet.within_respond r).staysBounded (SameClock.timebase (by constructor <;> simp))).trans
      (State.staysBounded_took _))
  | sent r rest live head =>
    have hmem : ∀ q ∈ rest, q ∈ s.replies := fun q hq => by rw [head]; exact List.mem_cons_of_mem r hq
    have hlength : rest.length ≤ s.replies.length := by rw [head]; exact Nat.le_succ _
    exact ⟨fun ⟨hf, hr, hn⟩ => ⟨hf, hlength.trans hr, hn⟩, id, id, fun hs q hq => hs q (hmem q hq), id⟩
  | forwarded r live chosen => exact hq.trans ((State.staysBounded_forwardRead (s := s.quiet) chosen).trans (State.staysBounded_took _))
  | expired live => exact hq.trans ((State.staysBounded_expire _).trans (State.staysBounded_took _))
  | unitTaken live => exact hq.trans ((State.staysBounded_unit _).trans (State.staysBounded_took _))
  | tenureExpired e live due =>
    exact hq.trans (((s.quiet.within_expireTenure e).staysBounded (SameClock.timebase (by constructor <;> simp))).trans
      (State.staysBounded_took _))
  | reset => exact s.staysBounded_hardReset.trans (State.staysBounded_took _)
  | released | raised | stopped | runs => exact .of_same rfl rfl rfl rfl ⟨rfl, rfl, rfl, rfl⟩
  | frame bytes f => exact s.staysBounded_frameCommand bytes f
  | short bits h => exact State.staysBounded_shortFrame h

/-- The counters of a REFCLK period that brings no event stay below their ends. -/
theorem State.timebase_tick {s : State} (hlive : s.live = true) (hs : TimebaseBounded s) : TimebaseBounded s.tick := by
  obtain ⟨htimer, hunit, hat⟩ := hs
  have hexpire : ∀ t : State, t.unitCounter < 64 → TimebaseBounded t.expire := fun t ht => by
    obtain ⟨h1, h2, -⟩ := t.expire_timebase
    exact ⟨by rw [h1, h2]; exact Config.samplePeriod_pos _, by simpa using ht, fun _ => h1⟩
  rw [State.tick_live hlive]
  split_ifs with hboth hfirst hsample hunits
  · exact hexpire _ (by rw [State.unit_unitCounter]; decide)
  · obtain ⟨h1, h2, -⟩ := s.counted.drawn.expire_timebase
    refine ⟨?_, by rw [State.unit_unitCounter]; decide, fun _ => ?_⟩
    · rw [State.unit_sampleTimer, State.unit_sampleLength, h1, h2]; exact Config.samplePeriod_pos _
    · rw [State.unit_sampleTimer, h1]
  · exact hexpire _ (by show s.unitCounter + 1 < 64; omega)
  · refine ⟨?_, by rw [State.unit_unitCounter]; decide, fun h => ?_⟩
    · rw [State.unit_sampleTimer, State.unit_sampleLength]; exact Nat.lt_of_not_le hsample
    · rw [State.unit_atExpiry] at h; cases h
  · exact ⟨Nat.lt_of_not_le hsample, Nat.lt_of_not_le hunits, fun h => by cases h⟩

/-- A REFCLK period keeps the bounds. -/
theorem State.staysBounded_tick (s : State) : StaysBounded s s.tick := by
  cases hlive : s.live with
  | false => rw [State.tick_idle hlive]; exact s.staysBounded_quiet
  | true =>
    have hcounted : Within s s.counted := .of_same rfl rfl rfl fun _ => ⟨rfl, rfl, rfl⟩
    have hdrawn : Within s s.counted.drawn := .of_same rfl rfl rfl fun _ => ⟨rfl, rfl, rfl⟩
    refine Within.staysBounded ?_ (State.timebase_tick hlive)
    rw [State.tick_live hlive]
    split_ifs
    · exact hdrawn.trans ((State.within_unit _).trans (State.within_expire _))
    · exact hdrawn.trans ((State.within_expire _).trans (State.within_unit _))
    · exact hcounted.trans (State.within_expire _)
    · exact hcounted.trans (State.within_unit _)
    · exact hcounted

/-- Settles O56: every event of a step keeps each bound by itself. -/
theorem boundsKeptByStep : Obligations.BoundsKeptByStep := by
  intro s u h
  have hb : StaysBounded s u := by
    unfold step at h
    split at h
    · cases h; exact s.staysBounded_tick
    next c rest _ =>
      obtain ⟨v, hv, heffect⟩ := exec_effect c { s with pending := rest }
      rw [hv] at h
      cases h
      have hrest : StaysBounded s { s with pending := rest } := .of_same rfl rfl rfl rfl ⟨rfl, rfl, rfl, rfl⟩
      exact hrest.trans heffect.staysBounded
  exact ⟨hb.lists, hb.filters, hb.timebase, hb.replies, hb.untracked⟩

end Sys2Proof.Machine
end

section
/-! SUPPORT. The link: what each byte of a frame does, by the frame state; frame state, head notice and reset values are kept
by every step (O57). -/

namespace Sys2Proof.Machine

open Sys2Proof.Safety Sys2Proof.Claim

/-! One byte, by the frame state. -/

/-- A byte has been clocked: MSO carried its byte. -/
def State.shifted (s : State) : State := s.updLink fun k => { k with mso := k.mso ++ [k.outByte], done := k.done + 1 }

section

variable {s : State} {b : Byte}

theorem State.linkByte_idle (h : s.link.phase = .idle) : s.linkByte b = s := if_pos h

theorem State.linkByte_stopped (h : s.link.phase ≠ .idle) (hrun : s.refclkRunning = false) :
    s.linkByte b = s.shifted.updLink fun k => { k with phase := .ignore } := by
  unfold State.linkByte
  rw [if_neg h]
  simp only [State.updLink_refclkRunning, hrun, Bool.not_false, if_true]
  rfl

theorem State.linkByte_command (h : s.link.phase = .command) (hrun : s.refclkRunning = true) :
    s.linkByte b = s.shifted.commandByte b := by
  simp only [State.linkByte, h, hrun, State.updLink_refclkRunning, State.updLink_link, reduceCtorEq, if_false, Bool.not_true,
    Bool.false_eq_true]
  rfl

theorem State.linkByte_argument (h : s.link.phase = .argument) (hrun : s.refclkRunning = true) :
    s.linkByte b = s.shifted.argumentByte b := by
  simp only [State.linkByte, h, hrun, State.updLink_refclkRunning, State.updLink_link, reduceCtorEq, if_false, Bool.not_true,
    Bool.false_eq_true]
  rfl

theorem State.linkByte_data (h : s.link.phase = .data) (hrun : s.refclkRunning = true) :
    s.linkByte b = s.shifted.dataByte b := by
  simp only [State.linkByte, h, hrun, State.updLink_refclkRunning, State.updLink_link, reduceCtorEq, if_false, Bool.not_true,
    Bool.false_eq_true]
  rfl

theorem State.linkByte_ret (h : s.link.phase = .ret) (hrun : s.refclkRunning = true) :
    s.linkByte b = s.shifted.returnByte := by
  simp only [State.linkByte, h, hrun, State.updLink_refclkRunning, State.updLink_link, reduceCtorEq, if_false, Bool.not_true,
    Bool.false_eq_true]
  rfl

theorem State.linkByte_ignore (h : s.link.phase = .ignore) (hrun : s.refclkRunning = true) :
    s.linkByte b = s.shifted := by
  simp only [State.linkByte, h, hrun, State.updLink_refclkRunning, State.updLink_link, reduceCtorEq, if_false, Bool.not_true,
    Bool.false_eq_true]
  rfl

end

section

variable (s : State)

/-- A register write leaves the link, but for REFUSED. -/
theorem State.writeRegister_link (a : Byte) (v : Word32) :
    (s.writeRegister a v).link = s.link ∨ (s.writeRegister a v).link = { s.link with refused := true } := by
  unfold State.writeRegister
  split
  · exact .inr rfl
  · exact .inr rfl
  · exact .inl (by simp)
  · unfold State.writeBase
    split_ifs
    · exact .inr rfl
    · exact .inl (by simp)
  · unfold State.writeShape
    split_ifs
    · exact .inr rfl
    · exact .inl (by simp)
  · unfold State.writeLimits
    split_ifs
    · exact .inr rfl
    · exact .inl (by simp)
  · unfold State.writeEnable
    dsimp only
    split_ifs
    · exact .inl rfl
    · exact .inl (by simp)
    · exact .inr rfl
    · exact .inl (by simp)
    · exact .inl (by simp)

theorem State.releaseHolder_link (i : Byte) :
    (s.releaseHolder i).link = s.link ∨ (s.releaseHolder i).link = { s.link with refused := true } := by
  unfold State.releaseHolder
  split_ifs
  · exact .inl (by simp)
  · exact .inr rfl
  · exact .inr rfl

theorem State.finishReturn_link :
    s.finishReturn.link = s.link ∨ s.finishReturn.link = { s.link with refused := false } := by
  unfold State.finishReturn
  split
  · split_ifs <;> exact .inl rfl
  · exact .inr rfl
  · exact .inl rfl

end

/-! The frame state (R144). -/

/-- The frame state of the link follows its frame. -/
def Link.Framed (k : Link) : Prop :=
  (k.mcsLow = false → k.phase = .idle) ∧ (k.phase = .command ∨ k.phase = .argument → k.dataIn = []) ∧
    (k.phase = .data → k.dataIn.length < 4) ∧ (k.phase = .ret → k.shiftOut ≠ [])

theorem frameMatches_iff (s : State) : FrameMatches s ↔ s.link.Framed := Iff.rfl

theorem Link.Framed.of_ignore {k : Link} (low : k.mcsLow = true) (h : k.phase = .ignore) : k.Framed := by
  simp [Link.Framed, low, h]

theorem Link.Framed.of_ret {k : Link} (low : k.mcsLow = true) (h : k.phase = .ret) (hout : k.shiftOut ≠ []) : k.Framed := by
  simp [Link.Framed, low, h, hout]

theorem State.noticeRecord_ne_nil (s : State) : s.noticeRecord ≠ [] := by
  unfold State.noticeRecord
  split
  next n _ _ => cases n <;> simp [Notice.record, noticeBytes]
  next => simp

/-- The snapshots of a complete argument byte are not empty. -/
theorem Framed_returns {s : State} (low : s.link.mcsLow = true) {l : List Byte} (hl : l ≠ []) : (s.returns l).link.Framed :=
  .of_ret low rfl hl

theorem State.framed_commandByte {s : State} (b : Byte) (low : s.link.mcsLow = true) (hdata : s.link.dataIn = []) :
    (s.commandByte b).link.Framed := by
  unfold State.commandByte
  dsimp only
  split
  · exact .of_ignore low rfl
  · exact .of_ret low rfl (State.noticeRecord_ne_nil _)
  · exact .of_ret low rfl (List.cons_ne_nil _ _)
  · refine .of_ignore ?_ rfl
    simp only [State.updLink_link, State.clearAll_link]
    exact low
  · simp [Link.Framed, State.updLink, low, hdata]

theorem State.framed_argumentByte {s : State} (b : Byte) (low : s.link.mcsLow = true) (hdata : s.link.dataIn = []) :
    (s.argumentByte b).link.Framed := by
  have hrefused : s.refuse.link.mcsLow = true := low
  unfold State.argumentByte
  split
  · unfold State.askRegister
    split
    · exact Framed_returns low (by simp [wordBytes])
    · exact Framed_returns hrefused (by simp)
  · simp [Link.Framed, State.updLink, low, hdata]
  · unfold State.askEntry
    split_ifs
    · exact Framed_returns low (by simp [Entry.record])
    · exact Framed_returns hrefused (by simp)
  · unfold State.askContext
    split_ifs
    · exact Framed_returns low (by simp [Context.record])
    · exact Framed_returns hrefused (by simp)
  · refine .of_ignore ?_ rfl
    obtain h | h := s.releaseHolder_link b <;> simp [State.updLink, h, low]
  · exact .of_ignore low rfl

theorem State.framed_dataByte {s : State} (b : Byte) (low : s.link.mcsLow = true) (hphase : s.link.phase = .data)
    (hdata : s.link.dataIn.length < 4) : (s.dataByte b).link.Framed := by
  unfold State.dataByte
  split
  next x y z h =>
    refine .of_ignore ?_ rfl
    obtain h | h := s.writeRegister_link s.link.argument (bytesWord x y z b) <;> simp [State.updLink, h, low]
  next h =>
    have hne : s.link.dataIn.length ≠ 3 := fun h3 => by
      obtain ⟨x, y, z, hxyz⟩ := List.length_eq_three.mp h3
      exact h x y z hxyz
    simp only [Link.Framed, State.updLink_link, low, hphase]
    simp
    omega

theorem State.framed_returnByte {s : State} (low : s.link.mcsLow = true) (hphase : s.link.phase = .ret) :
    s.returnByte.link.Framed := by
  unfold State.returnByte
  dsimp only
  split_ifs with h
  · refine .of_ignore ?_ rfl
    obtain h | h := (s.updLink fun k => { k with shiftOut := k.shiftOut.tail }).finishReturn_link <;>
      simp [State.updLink_link, h, low]
  · refine .of_ret low hphase ?_
    simpa using h

theorem State.framed_linkByte {s : State} (b : Byte) (h : s.link.Framed) : (s.linkByte b).link.Framed := by
  by_cases hidle : s.link.phase = .idle
  · rw [State.linkByte_idle hidle]; exact h
  obtain ⟨hlow, hargument, hdata, -⟩ := h
  have low : s.link.mcsLow = true := by
    by_contra hne
    exact hidle (hlow (by simpa using hne))
  cases hrun : s.refclkRunning with
  | false => rw [State.linkByte_stopped hidle hrun]; exact .of_ignore low rfl
  | true =>
    cases hphase : s.link.phase with
    | idle => exact absurd hphase hidle
    | command => rw [State.linkByte_command hphase hrun]; exact State.framed_commandByte b low (hargument (.inl hphase))
    | argument => rw [State.linkByte_argument hphase hrun]; exact State.framed_argumentByte b low (hargument (.inr hphase))
    | data => rw [State.linkByte_data hphase hrun]; exact State.framed_dataByte b low hphase (hdata hphase)
    | ret => rw [State.linkByte_ret hphase hrun]; exact State.framed_returnByte low hphase
    | ignore => rw [State.linkByte_ignore hphase hrun]; exact .of_ignore low hphase

theorem State.framed_mcsRise (s : State) : s.mcsRise.link.Framed := by simp [Link.Framed, State.mcsRise, State.updLink]

theorem State.framed_mcsFall {s : State} (h : s.link.phase = .idle) : s.mcsFall.link.Framed := by
  unfold State.mcsFall
  split_ifs with hlow <;> simp [Link.Framed, h, State.updLink]

/-- What every byte keeps, and the fall and the rise of MCS_N set up, a frame keeps. -/
theorem State.runFrame_keeps {P : State → Prop} (hbyte : ∀ s b, P s → P (s.linkByte b)) (hrise : ∀ s, P s → P s.mcsRise)
    (hfall : ∀ s, s.link.phase = .idle → P s → P s.mcsFall) {s : State} (h : P s) (frame : List Byte) (f : Frame) :
    P (s.runFrame frame f) := by
  have hstart : P (if f.starts then s.mcsRise.mcsFall else s) := by
    split_ifs
    · exact hfall _ rfl (hrise s h)
    · exact h
  have hclock : ∀ n t, P t → P (t.clockBytes frame n) := by
    intro n
    induction n with
    | zero => exact fun t ht => ht
    | succ n ih => exact fun t ht => ih _ (hbyte t _ ht)
  unfold State.runFrame
  dsimp only
  by_cases hends : f.ends = true
  · rw [if_pos hends]; exact hrise _ (hclock _ _ hstart)
  · rw [if_neg hends]; exact hclock _ _ hstart

/-- What a frame keeps, the command that carries it keeps, when the outputs do not matter. -/
theorem State.frameCommand_keeps {P : State → Prop} (hout : ∀ s o, P s → P { s with out := o })
    (hbyte : ∀ s b, P s → P (s.linkByte b)) (hrise : ∀ s, P s → P s.mcsRise)
    (hfall : ∀ s, s.link.phase = .idle → P s → P s.mcsFall) {s : State} (h : P s) (frame : List Byte) (f : Frame) :
    P (s.frameCommand frame f) := by
  have hrun := State.runFrame_keeps hbyte hrise hfall (hout s _ h : P s.quiet) frame f
  unfold State.frameCommand
  dsimp only
  split_ifs
  · exact hrun
  · exact hout _ _ hrun

end Sys2Proof.Machine
end

section
/-! SUPPORT. Frame state, head notice, held reset values and pins are kept by every step (O57). -/

namespace Sys2Proof.Machine

open Sys2Proof.Safety Sys2Proof.Claim

/-! The head notice (R138). -/

/-- No frame that returns a notice is open. -/
theorem headStays_of_phase {s : State} (h : s.link.phase ≠ .ret) : HeadStays s := fun hret => absurd hret h

theorem headStays_of_command {s : State} (h : s.link.command ≠ some .takeNotice) : HeadStays s := fun _ hc => absurd hc h

theorem State.headStays_commandByte (s : State) (b : Byte) : HeadStays (s.commandByte b) := by
  unfold State.commandByte
  dsimp only
  split
  next => exact headStays_of_phase (by simp)
  next =>
    intro _ _ htaken hnone
    have hempty : s.notices = [] := hnone
    simp [State.returns, State.updLink, hempty] at htaken
  next h => exact headStays_of_command (by simp [State.returns, State.updLink, h])
  next => exact headStays_of_phase (by simp)
  next => exact headStays_of_phase (by simp)

theorem State.headStays_argumentByte (s : State) (b : Byte) : HeadStays (s.argumentByte b) := by
  unfold State.argumentByte
  split
  next h =>
    unfold State.askRegister
    split <;> exact headStays_of_command (by simp [State.returns, State.refuse, h])
  next => exact headStays_of_phase (by simp)
  next h =>
    unfold State.askEntry
    split_ifs <;> exact headStays_of_command (by simp [State.returns, State.refuse, h])
  next h =>
    unfold State.askContext
    split_ifs <;> exact headStays_of_command (by simp [State.returns, State.refuse, h])
  next => exact headStays_of_phase (by simp)
  next => exact headStays_of_phase (by simp)

theorem State.headStays_dataByte (s : State) (b : Byte) (hphase : s.link.phase = .data) : HeadStays (s.dataByte b) := by
  unfold State.dataByte
  split <;> exact headStays_of_phase (by simp [hphase])

theorem State.headStays_returnByte {s : State} (h : HeadStays s) : HeadStays s.returnByte := by
  unfold State.returnByte
  dsimp only
  split_ifs
  · exact headStays_of_phase (by simp)
  · exact h

theorem State.headStays_linkByte {s : State} (b : Byte) (h : HeadStays s) : HeadStays (s.linkByte b) := by
  by_cases hidle : s.link.phase = .idle
  · rw [State.linkByte_idle hidle]; exact h
  cases hrun : s.refclkRunning with
  | false => rw [State.linkByte_stopped hidle hrun]; exact headStays_of_phase (by simp)
  | true =>
    cases hphase : s.link.phase with
    | idle => exact absurd hphase hidle
    | command => rw [State.linkByte_command hphase hrun]; exact State.headStays_commandByte _ b
    | argument => rw [State.linkByte_argument hphase hrun]; exact State.headStays_argumentByte _ b
    | data => rw [State.linkByte_data hphase hrun]; exact State.headStays_dataByte _ b hphase
    | ret => rw [State.linkByte_ret hphase hrun]; exact State.headStays_returnByte h
    | ignore => rw [State.linkByte_ignore hphase hrun]; exact h

theorem State.headStays_mcsFall {s : State} (h : s.link.phase = .idle) : HeadStays s.mcsFall := by
  unfold State.mcsFall
  split_ifs <;> exact headStays_of_phase (by simp [h])

/-- While notices are only handed over, the head stays. -/
theorem HeadStays.of_handed {s u : State} (h : HeadStays s) (link : u.link = s.link) (notices : Handed s.notices u.notices) :
    HeadStays u := by
  intro h1 h2 h3
  rw [link] at h1 h2 h3
  exact notices.ne_nil (h h1 h2 h3)

/-! Events other than frames leave the link. -/

/-- The events that are not of the link leave it as it is, and only hand notices over, but for the hard reset. -/
theorem Effect.link_or {s u : State} (h : Effect s u) :
    (u.link = s.link ∧ Handed s.notices u.notices) ∨ u = s.hardReset.took ∨
      (∃ bytes f, u = s.frameCommand bytes f) ∨ ∃ bits, execShortFrame bits s = .next u := by
  cases h with
  | nothing => exact .inl ⟨rfl, .refl⟩
  | discarded => exact .inl ⟨rfl, .refl⟩
  | accepted r far run ready =>
    exact .inl ⟨by simp, (s.quiet.accepted_carryOut r (s.dispose r)).notices⟩
  | cancelled m p live parked room => exact .inl ⟨by simp, (s.quiet.cancel_adds m p).2.1⟩
  | responded r live => exact .inl ⟨by simp, (s.quiet.within_respond r).notices⟩
  | sent r rest live head => exact .inl ⟨rfl, .refl⟩
  | forwarded r live chosen => exact .inl ⟨by simp, by simp [Handed.refl]⟩
  | expired live => exact .inl ⟨by rw [State.took_link, State.expire_link, State.quiet_link],
      by rw [State.took_notices]; exact s.quiet.within_expire.notices⟩
  | unitTaken live => exact .inl ⟨by rw [State.took_link, State.unit_link, State.quiet_link],
      by rw [State.took_notices]; exact s.quiet.within_unit.notices⟩
  | tenureExpired e live due => exact .inl ⟨by simp, (s.quiet.within_expireTenure e).notices⟩
  | reset => exact .inr (.inl rfl)
  | released | raised | stopped | runs => exact .inl ⟨rfl, .refl⟩
  | frame bytes f => exact .inr (.inr (.inl ⟨bytes, f, rfl⟩))
  | short bits h => exact .inr (.inr (.inr ⟨bits, h⟩))

/-- A short frame is a rise and a fall of MCS_N and a rise again. -/
theorem shortFrame_keeps {P : State → Prop} (hout : ∀ s o, P s → P { s with out := o })
    (hbits : ∀ s l, P s → P (s.updLink fun k => { k with msoBits := l })) (hrise : ∀ s, P s → P s.mcsRise)
    (hfall : ∀ s, s.link.phase = .idle → P s → P s.mcsFall) {s u : State} {bits : Fin 8} (h : P s)
    (hu : execShortFrame bits s = .next u) : P u := by
  have hopen : P s.quiet.mcsRise.mcsFall := hfall _ rfl (hrise _ (hout s _ h))
  unfold execShortFrame at hu
  dsimp only at hu
  split_ifs at hu
  · cases hu; exact hrise _ hopen
  · cases hu; exact hout _ _ (hrise _ (hbits _ _ hopen))

/-- Every event keeps the frame state. -/
theorem Effect.frameMatches {s u : State} (h : Effect s u) (hs : FrameMatches s) : FrameMatches u := by
  obtain ⟨hl, -⟩ | rfl | ⟨bytes, f, rfl⟩ | ⟨bits, hu⟩ := h.link_or
  · rw [frameMatches_iff, hl]; exact hs
  · simp [frameMatches_iff, Link.Framed, State.hardReset, Link.reset]
  · exact State.frameCommand_keeps (P := FrameMatches) (fun s o h => h) (fun s b h => State.framed_linkByte b h)
      (fun s _ => s.framed_mcsRise) (fun s hi _ => State.framed_mcsFall hi) hs bytes f
  · exact shortFrame_keeps (P := FrameMatches) (fun s o h => h) (fun s l h => h) (fun s _ => s.framed_mcsRise)
      (fun s hi _ => State.framed_mcsFall hi) hs hu

/-- Every event keeps the head notice of an open frame. -/
theorem Effect.headStays {s u : State} (h : Effect s u) (hs : HeadStays s) : HeadStays u := by
  have hrise : ∀ t : State, HeadStays t.mcsRise := fun t => headStays_of_phase (by simp [State.mcsRise])
  obtain ⟨hl, hn⟩ | rfl | ⟨bytes, f, rfl⟩ | ⟨bits, hu⟩ := h.link_or
  · exact HeadStays.of_handed hs hl hn
  · exact headStays_of_phase (by simp [State.hardReset, Link.reset])
  · exact State.frameCommand_keeps (P := HeadStays) (fun s o h => h) (fun s b h => State.headStays_linkByte b h)
      (fun s _ => hrise s) (fun s hi _ => State.headStays_mcsFall hi) hs bytes f
  · exact shortFrame_keeps (P := HeadStays) (fun s o h => h) (fun s l h => h) (fun s _ => hrise s)
      (fun s hi _ => State.headStays_mcsFall hi) hs hu

/-! Reset (R155, R156). -/

/-- The pins of RESET_N and REFCLK stay, and reset lasts or not as before. -/
def SamePins (s u : State) : Prop := u.resetLow = s.resetLow ∧ u.inReset = s.inReset ∧ u.refclkRunning = s.refclkRunning

theorem State.samePins_frameCommand (s : State) (bytes : List Byte) (f : Frame) : SamePins s (s.frameCommand bytes f) := by
  have hfall : ∀ t : State, SamePins t t.mcsFall := fun t => by unfold State.mcsFall; split_ifs <;> exact ⟨rfl, rfl, rfl⟩
  have htrans : ∀ {t v : State}, SamePins t v → SamePins s t → SamePins s v := fun {t v} ⟨h1, h2, h3⟩ ⟨k1, k2, k3⟩ =>
    ⟨h1.trans k1, h2.trans k2, h3.trans k3⟩
  exact State.frameCommand_keeps (P := SamePins s) (fun t o h => h) (fun t b h => htrans ⟨by simp, by simp, by simp⟩ h)
    (fun t h => h) (fun t _ h => htrans (hfall t) h) ⟨rfl, rfl, rfl⟩ bytes f

theorem shortFrame_samePins {s u : State} {bits : Fin 8} (h : execShortFrame bits s = .next u) : SamePins s u := by
  have hfall : ∀ t : State, SamePins t t.mcsFall := fun t => by unfold State.mcsFall; split_ifs <;> exact ⟨rfl, rfl, rfl⟩
  refine shortFrame_keeps (P := SamePins s) (fun t o h => h) (fun t l h => h) (fun t h => h) (fun t _ h => ?_)
    ⟨rfl, rfl, rfl⟩ h
  obtain ⟨h1, h2, h3⟩ := hfall t
  exact ⟨h1.trans h.1, h2.trans h.2.1, h3.trans h.2.2⟩

/-- Every event keeps the reset in step with RESET_N and REFCLK. -/
theorem Effect.resetFollowsPin {s u : State} (h : Effect s u) (hs : ResetFollowsPin s) : ResetFollowsPin u := by
  have hsame : ∀ {v : State}, SamePins s v → ResetFollowsPin v := fun {v} ⟨h1, h2, h3⟩ => by
    rw [ResetFollowsPin, h1, h2, h3]; exact hs
  cases h with
  | nothing | discarded | sent => exact hsame ⟨rfl, rfl, rfl⟩
  | accepted | cancelled | responded | forwarded | expired | unitTaken | tenureExpired =>
    exact hsame ⟨by simp, by simp, by simp⟩
  | reset => exact ⟨fun _ => rfl, fun _ h => absurd h (by simp [State.hardReset])⟩
  | released => exact ⟨(fun h => by cases h), (fun h => by cases h)⟩
  | raised still =>
    refine ⟨(fun h => by cases h), fun h _ => ?_⟩
    obtain h' | h' := still
    · exact h'
    · rw [show s.inReset = true from h] at h'; cases h'
  | stopped => exact ⟨hs.1, fun _ _ => rfl⟩
  | runs =>
    refine ⟨fun h => ?_, fun h h' => ?_⟩
    · show (s.inReset && s.resetLow) = true
      rw [show s.resetLow = true from h, hs.1 h]
      rfl
    · have hlow : s.resetLow = true := (Bool.and_eq_true_iff.mp h).2
      rw [show s.resetLow = false from h'] at hlow
      cases hlow
  | frame bytes f => exact hsame (s.samePins_frameCommand bytes f)
  | short bits h => exact hsame (shortFrame_samePins h)

/-- Every record of the part but the outputs, the link, the pins and what waits has its reset value. -/
def State.atReset (s : State) : Prop :=
  s = { State.reset with
    link := s.link, refclkRunning := s.refclkRunning, resetLow := s.resetLow, inReset := true, out := s.out
    draws := s.draws, pending := s.pending }

theorem resetHolds_iff (s : State) :
    ResetHolds s ↔ (s.inReset = true → s.atReset ∧ s.link.phase = .idle ∧ s.link.refused = false) := Iff.rfl

/-- An open reset holds whatever becomes of the outputs, the pins and MCS_N. -/
theorem State.atReset.of_outside {s : State} (h : s.atReset) (link : Link) (run low : Bool) (out : Out)
    (pending : List Instr) :
    State.atReset { s with link := link, refclkRunning := run, resetLow := low, out := out, pending := pending } := by
  unfold State.atReset at *
  rw [h]

/-- The part is held in reset, with every record at its reset value and no frame open. -/
def State.held (s : State) : Prop := s.inReset = true ∧ s.atReset ∧ s.link.phase = .idle ∧ s.link.refused = false

/-- What lies outside the part may move in reset. -/
theorem State.held.of_outside {s : State} (h : s.held) {link : Link} (hidle : link.phase = .idle)
    (hrefused : link.refused = false) (run low : Bool) (out : Out) (pending : List Instr) :
    State.held { s with link := link, refclkRunning := run, resetLow := low, out := out, pending := pending } :=
  ⟨h.1, h.2.1.of_outside link run low out pending, hidle, hrefused⟩

theorem State.held.with_out {s : State} (h : s.held) (out : Out) : State.held { s with out := out } :=
  h.of_outside h.2.2.1 h.2.2.2 s.refclkRunning s.resetLow out s.pending

theorem State.held.mcsRise {s : State} (h : s.held) : s.mcsRise.held :=
  h.of_outside (link := { s.link with phase := .idle, mcsLow := false }) rfl h.2.2.2 s.refclkRunning s.resetLow s.out s.pending

/-- In reset only MCS_N falls (R152). -/
theorem State.held.mcsFall {s : State} (h : s.held) : s.mcsFall.held := by
  unfold State.mcsFall
  rw [if_pos h.1]
  split_ifs
  · exact h
  · exact h.of_outside (link := { s.link with mcsLow := true }) h.2.2.1 h.2.2.2 s.refclkRunning s.resetLow s.out s.pending

theorem State.held.linkByte {s : State} (h : s.held) (b : Byte) : (s.linkByte b).held := by
  rw [State.linkByte_idle h.2.2.1]; exact h

theorem State.held.not_live {s : State} (h : s.held) : s.live = false := by simp [State.live, h.1]

/-- Every event keeps the reset values. -/
theorem Effect.held {s u : State} (h : Effect s u) (hs : s.held) (hu : u.inReset = true) : u.held := by
  have hlive := hs.not_live
  cases h with
  | nothing => exact hs.with_out _
  | discarded => exact hs.with_out _
  | accepted r far run ready =>
    have := ((s.requestReady_iff _ _).mp ready).1
    rw [hs.1] at this
    cases this
  | cancelled _ _ live | responded _ live | sent _ _ live | forwarded _ live | expired live | unitTaken live
  | tenureExpired _ live => rw [hlive] at live; cases live
  | reset => exact ⟨rfl, rfl, rfl, rfl⟩
  | released => cases hu
  | raised => exact hs.of_outside hs.2.2.1 hs.2.2.2 s.refclkRunning false Out.none s.pending
  | stopped =>
    exact hs.of_outside hs.2.2.1 hs.2.2.2 false s.resetLow { Out.none with taken := true } s.pending
  | runs =>
    have hlow : s.resetLow = true := (Bool.and_eq_true_iff.mp hu).2
    have hk := hs.of_outside hs.2.2.1 hs.2.2.2 true s.resetLow { Out.none with taken := true } s.pending
    have hin : (s.inReset && s.resetLow) = s.inReset := by rw [hs.1, hlow]; rfl
    rw [hin]
    exact hk
  | frame bytes f =>
    exact State.frameCommand_keeps (P := State.held) (fun s o h => h.with_out o) (fun s b h => h.linkByte b)
      (fun s h => h.mcsRise) (fun s _ h => h.mcsFall) hs bytes f
  | short bits h =>
    exact shortFrame_keeps (P := State.held) (fun s o h => h.with_out o)
      (fun s l h => h.of_outside (link := { s.link with msoBits := l }) h.2.2.1 h.2.2.2 s.refclkRunning s.resetLow s.out s.pending)
      (fun s h => h.mcsRise) (fun s _ h => h.mcsFall) hs h

/-- Reset begins with the hard reset only. -/
theorem Effect.reset_of_live {s u : State} (h : Effect s u) (hs : s.inReset = false) (hu : u.inReset = true) :
    u = s.hardReset.took := by
  have hsame : ∀ {v : State}, SamePins s v → v.inReset = true → v = s.hardReset.took := fun {v} ⟨_, h2, _⟩ hv => by
    rw [h2, hs] at hv; cases hv
  cases h with
  | nothing | discarded | sent => exact hsame ⟨rfl, rfl, rfl⟩ hu
  | accepted | cancelled | responded | forwarded | expired | unitTaken | tenureExpired =>
    exact hsame ⟨by simp, by simp, by simp⟩ hu
  | reset => rfl
  | released => cases hu
  | raised | stopped => rw [show s.inReset = true from hu] at hs; cases hs
  | runs =>
    rw [(Bool.and_eq_true_iff.mp hu).1] at hs
    cases hs
  | frame bytes f => exact hsame (s.samePins_frameCommand bytes f) hu
  | short bits h => exact hsame (shortFrame_samePins h) hu

/-- Every event keeps the reset values in reset. -/
theorem Effect.resetHolds {s u : State} (h : Effect s u) (hs : ResetHolds s) : ResetHolds u := by
  rw [resetHolds_iff] at *
  intro hu
  cases hin : s.inReset with
  | true => exact (h.held ⟨hin, hs hin⟩ hu).2
  | false => rw [h.reset_of_live hin hu]; exact ⟨rfl, rfl, rfl⟩

/-- A REFCLK period leaves the link and the pins, and hands notices over. -/
theorem State.tick_keeps_link (s : State) : s.tick.link = s.link ∧ SamePins s s.tick ∧ Handed s.notices s.tick.notices := by
  cases hlive : s.live with
  | false => rw [State.tick_idle hlive]; exact ⟨rfl, ⟨rfl, rfl, rfl⟩, .refl⟩
  | true =>
    have hcounted : ∀ t : State, t.link = s.link → SamePins s t → Handed s.notices t.notices →
        (t.expire.link = s.link ∧ SamePins s t.expire ∧ Handed s.notices t.expire.notices) ∧
          (t.unit.link = s.link ∧ SamePins s t.unit ∧ Handed s.notices t.unit.notices) := fun t hl ⟨h1, h2, h3⟩ hn =>
      ⟨⟨t.expire_link.trans hl, ⟨by simpa using h1, by simpa using h2, by simpa using h3⟩, hn.trans t.within_expire.notices⟩,
        ⟨t.unit_link.trans hl, ⟨by simpa using h1, by simpa using h2, by simpa using h3⟩, hn.trans t.within_unit.notices⟩⟩
    have hc := hcounted s.counted rfl ⟨rfl, rfl, rfl⟩ .refl
    have hd := hcounted s.counted.drawn rfl ⟨rfl, rfl, rfl⟩ .refl
    rw [State.tick_live hlive]
    split_ifs
    · exact (hcounted _ hd.2.1 hd.2.2.1 hd.2.2.2).1
    · exact (hcounted _ hd.1.1 hd.1.2.1 hd.1.2.2).2
    · exact hc.1
    · exact hc.2
    · exact ⟨rfl, ⟨rfl, rfl, rfl⟩, .refl⟩

/-- Settles O57: the link moves only with the bytes of its frames and the level of MCS_N, and the part leaves its reset
values only when the reset is over. -/
theorem linkAndResetKeptByStep : Obligations.LinkAndResetKeptByStep := by
  intro s u h
  unfold step at h
  split at h
  · cases h
    obtain ⟨hlink, hpins, hnotices⟩ := s.tick_keeps_link
    refine ⟨fun hs => ?_, fun _ hs => HeadStays.of_handed hs hlink hnotices, fun hs hin => ?_, fun hs => ?_⟩
    · rw [frameMatches_iff, hlink]; exact hs
    · have hreset : s.inReset = true := hpins.2.1 ▸ hin
      have hheld : s.held := ⟨hreset, hs hreset⟩
      rw [State.tick_idle hheld.not_live]
      exact (hheld.with_out _).2
    · obtain ⟨h1, h2, h3⟩ := hpins
      rw [ResetFollowsPin, h1, h2, h3]; exact hs
  next c rest _ =>
    obtain ⟨v, hv, heffect⟩ := exec_effect c { s with pending := rest }
    rw [hv] at h
    cases h
    refine ⟨fun hs => heffect.frameMatches hs, fun _ hs => heffect.headStays hs, fun hs => heffect.resetHolds fun hin => ?_,
      fun hs => heffect.resetFollowsPin hs⟩
    have hheld : s.held := ⟨hin, hs hin⟩
    exact (hheld.of_outside hheld.2.2.1 hheld.2.2.2 s.refclkRunning s.resetLow s.out rest).2

end Sys2Proof.Machine
end

section
/-! SUPPORT. Acceptances in the obligations' words: what requests need (O7), what is not monitored (O8), linked reads in every
mode of their granule (O9 to O13). -/

namespace Sys2Proof.Machine

open Sys2Proof.Safety Sys2Proof.Claim

/-! The outputs of the last step are no input of the next. -/

/-- The state with other outputs. -/
def State.withOut (s : State) (o : Out) : State := { s with out := o }

section

variable (s : State) (o : Out)

theorem State.quiet_eq : s.quiet = s.withOut Out.none := rfl

theorem State.notify_withOut (n : Notice) : (s.withOut o).notify n = (s.notify n).withOut o := by
  unfold State.notify
  split_ifs with h1 h2 h3 h4 h5 h6 <;> simp_all [State.withOut]

theorem unreserved_withOut (m : Master) : unreserved m (s.withOut o) = (unreserved m s).withOut o := rfl

theorem letGo_withOut (m : Master) (e : EntryIx) : letGo m e (s.withOut o) = (letGo m e s).withOut o := by
  unfold letGo
  by_cases h : (s.ctx m).reservation = some (s.entry e).granule
  · have h' : ((s.withOut o).ctx m).reservation = some ((s.withOut o).entry e).granule := h
    simp only [h, h', decide_true, if_true]
    rfl
  · have h' : ¬ ((s.withOut o).ctx m).reservation = some ((s.withOut o).entry e).granule := h
    simp only [h, h', decide_false, Bool.false_eq_true, if_false]
    rfl

theorem State.updEntry_withOut (e : EntryIx) (f : Entry → Entry) : (s.withOut o).updEntry e f = (s.updEntry e f).withOut o := rfl

theorem grantedTo_withOut (k : Master) (rest : List Master) (e : EntryIx) :
    grantedTo k rest e (s.withOut o) = (grantedTo k rest e s).withOut o := rfl

theorem settled_withOut (e : EntryIx) : settled e (s.withOut o) = (settled e s).withOut o := by
  have hentry : (s.withOut o).entry e = s.entry e := rfl
  have hcov : (s.withOut o).covered (s.entry e).granule = s.covered (s.entry e).granule := rfl
  unfold settled
  rw [hentry]
  cases (s.entry e).queue with
  | nil => simp only [State.updEntry_withOut, State.notify_withOut, apply_ite (State.withOut · o)]
  | cons k rest => simp only [hcov, grantedTo_withOut, apply_ite (State.withOut · o)]

end

/-! Dispositions. -/

section

variable {s : State} {m : Master} {t : Tag} {a : Addr} {z : SizeCode}

theorem State.dispose_plainRead (hok : s.refusal (plainReadRequest m t a z) = none) :
    s.dispose (plainReadRequest m t a z) = .forwardPlain := by
  unfold State.dispose
  rw [hok]
  cases hc : s.classify (plainReadRequest m t a z).address <;> simp [plainReadRequest]

theorem State.dispose_plainWrite_outside {d : Data} {b : Strobes} (hok : s.refusal (plainWriteRequest m t a z d b) = none)
    (hout : s.classify a = none) : s.dispose (plainWriteRequest m t a z d b) = .forwardPlain := by
  have hclass : s.classify (plainWriteRequest m t a z d b).address = none := hout
  unfold State.dispose
  rw [hok, hclass]
  rfl

theorem State.dispose_plainWrite_inside {d : Data} {b : Strobes} {w : WindowIx}
    (hok : s.refusal (plainWriteRequest m t a z d b) = none) (hin : s.classify a = some w) :
    s.dispose (plainWriteRequest m t a z d b) = .forwardWrite w := by
  have hclass : s.classify (plainWriteRequest m t a z d b).address = some w := hin
  unfold State.dispose
  rw [hok, hclass]
  rfl

theorem State.dispose_linked_outside {k : Kind} (hok : s.refusal (linkedRequest m t k a z) = none)
    (hout : s.classify a = none) : s.dispose (linkedRequest m t k a z) = .forwardNomon := by
  have hclass : s.classify (linkedRequest m t k a z).address = none := hout
  unfold State.dispose
  rw [hok, hclass]
  rfl

theorem State.dispose_linked_inside {k : Kind} {w : WindowIx} (hok : s.refusal (linkedRequest m t k a z) = none)
    (hin : s.classify a = some w) : s.dispose (linkedRequest m t k a z) = s.judgeRead m (s.granuleOf w a) := by
  have hclass : s.classify (linkedRequest m t k a z).address = some w := hin
  unfold State.dispose
  rw [hok, hclass]
  rfl

/-- No entry in QUEUED or DRAIN is found for a granule in WATCH (R24). -/
theorem State.servingEntry_of_inWatch {g : Granule} (h : inWatch s g) : s.servingEntry g = none := by
  unfold State.servingEntry
  cases he : s.entryFor g with
  | none => rfl
  | some e =>
    obtain ⟨hused, hgran⟩ := State.entryFor_some he
    simp [Option.filter, Entry.serving, h e hused hgran]

theorem State.heldEntry_of_holdsNone {g : Granule} (h : ∀ e, (s.entry e).granule = g → (s.entry e).holder ≠ some m) :
    s.heldEntry m g = none := by
  unfold State.heldEntry
  cases he : s.entryFor g with
  | none => rfl
  | some e => simp [Option.filter, h e (State.entryFor_some he).2]

/-- The entry that tracks a granule and serves it is found (R24). -/
theorem State.servingEntry_of_tracks {e : EntryIx} {g : Granule} (h : tracks s e g) (hserv : (s.entry e).serving = true) :
    s.servingEntry g = some e := by
  simp [State.servingEntry, State.entryFor_of_tracks h, hserv]

/-- A master that holds nothing moves by losing its reservation (R23). -/
theorem State.move_of_holdsNone {g : Granule} (h : (s.ctx m).holdership = none) : s.move m g = s.clearReservation m := by
  have hh : ((s.clearReservation m).ctx m).holdership = none := by simp [h]
  unfold State.move
  dsimp only
  rw [hh]

/-- A holder that stays on its granule loses its reservation alone (R23). -/
theorem State.move_of_holdsOwn {e : EntryIx} {g : Granule} (h : (s.ctx m).holdership = some e)
    (hg : (s.entry e).granule = g) : s.move m g = s.clearReservation m := by
  have hh : ((s.clearReservation m).ctx m).holdership = some e := by simp [h]
  unfold State.move
  dsimp only
  rw [hh]
  simp [hg]

end

theorem Flight.unmark_unmark (p : Master → Bool) (f : Flight) : (f.unmark p).unmark p = f.unmark p := by
  unfold Flight.unmark
  cases h : f.kind <;> simp [h]
  split_ifs <;> simp_all

theorem unmarked_unmarked (m : Master) (l : List Flight) : unmarked m (unmarked m l) = unmarked m l := by
  simp [unmarked, Flight.unmark_unmark]

/-! What the head request needs (O7). -/

theorem Disposition.length_of_carryOut {s : State} {r : Request} {d : Disposition} (h : s.flight.length < (s.carryOut r d).flight.length) :
    d.tracked = true := by
  obtain hle | ⟨htracked, -⟩ := (s.accepted_carryOut r d).flight
  · omega
  · exact htracked

/-- What an acceptance sends on the far request channel. -/
theorem State.carryOut_out_eq (s : State) (r : Request) (d : Disposition) :
    (s.carryOut r d).out = if d.forwards then { s.out with farRequest := some r.toFar } else s.out := by
  cases d <;> simp [State.carryOut, Disposition.forwards, State.forwarded]

/-- What an accepted request leaves on the outputs. -/
theorem State.accepted_out (s : State) (r : Request) (d : Disposition) :
    (s.quiet.carryOut r d).took.out = moved (if d.forwards then some r.toFar else none) none := by
  have h := s.quiet.carryOut_out_eq r d
  unfold State.took moved
  rw [h]
  split_ifs <;> rfl

/-- What the far request channel presents with nothing released: the head request, when it would go. -/
theorem State.farRequestPresented_head {s : State} (hin : s.inReset = false) (hnone : s.released = []) (r : Request) :
    s.farRequestPresented (some r) =
      if (s.dispose r).forwards && s.requestReady (s.dispose r) true then some r.toFar else none := by
  simp only [State.farRequestPresented, hin, hnone, Bool.false_eq_true, if_false, List.isEmpty_nil, if_true, Option.filter_some]
  split_ifs <;> rfl

/-- Settles O7: an offered request is accepted at ready, with its whole effect, or it changes nothing. -/
theorem requestWaitsForWhatItNeeds : Obligations.RequestWaitsForWhatItNeeds := by
  intro c r far s hrow
  have hreset : s.inReset = true → s.requestReady (s.dispose r) far = false ∧ s.farRequestPresented (some r) = none :=
    fun h => ⟨by simp [State.requestReady, h], (State.presented_in_reset h _ none).1⟩
  refine ⟨s.offer r far, exec_of_requestOf hrow s, ?_⟩
  obtain ⟨hrun, hready, h⟩ | ⟨hnot, h⟩ := s.offer_cases r far
  · obtain ⟨hin, hroom, hfar, hlist⟩ := (s.requestReady_iff _ _).mp hready
    have hout := s.accepted_out r (s.dispose r)
    rw [h, hout]
    refine ⟨fun _ => ⟨s.live_iff.mpr ⟨hrun, hin⟩, hroom⟩, fun hne => hfar ?_, fun hlen => hlist ?_, fun hf => ?_,
      ⟨fun _ => ⟨hrun, hready⟩, fun _ => rfl⟩, fun hfree hlive hnone => ?_, hreset⟩
    · by_contra hf
      simp [moved, hf] at hne
    · exact Disposition.length_of_carryOut (s := s.quiet) hlen
    · cases hf
    · subst hfree
      rw [State.farRequestPresented_head hin hnone, hready, Bool.and_true]
      rfl
  · rw [h]
    refine ⟨(fun hf => by cases hf), fun hne => absurd rfl hne, fun hlt => absurd hlt (lt_irrefl _), fun _ => rfl,
      ⟨(fun hf => by cases hf), fun hf => absurd hf hnot⟩, fun hfree hlive hnone => ?_, hreset⟩
    obtain ⟨hrun, hin⟩ := s.live_iff.mp hlive
    subst hfree
    have hready : s.requestReady (s.dispose r) true = false := by
      rw [Bool.eq_false_iff]; exact fun h => hnot ⟨hrun, h⟩
    rw [State.farRequestPresented_head hin hnone, hready, Bool.and_false]
    rfl

end Sys2Proof.Machine
end

section
/-! SUPPORT. Requests that are not monitored (O8), and linked reads in every mode of their granule (O9 to O13). -/

namespace Sys2Proof.Machine

open Sys2Proof.Safety Sys2Proof.Claim

/-- A request that is forwarded without an entry is accepted at an open far port (R120). -/
theorem State.offer_of_farOpen {s : State} {r : Request} {d : Disposition} (hopen : farOpen s) (hd : s.dispose r = d)
    (huntracked : d.tracked = false) : s.offer r true = (s.quiet.carryOut r d).took := by
  obtain ⟨⟨hlive, hroom⟩, hnone⟩ := hopen
  obtain ⟨hrun, hreset⟩ := s.live_iff.mp hlive
  exact State.offer_of_ready hd hrun
    ((s.requestReady_iff d true).mpr ⟨hreset, hroom, fun _ => ⟨rfl, hnone⟩, fun h => by rw [huntracked] at h; cases h⟩)

/-- Settles O8: the three forms are forwarded at once, the linked read with its mark. -/
theorem unmonitoredRequestsForwarded : Obligations.UnmonitoredRequestsForwarded := by
  intro m t a z d b s hopen
  refine ⟨fun hok => ?_, fun hok hout => ?_, fun hok hout => ?_⟩
  · show Host.Outcome.next (s.offer (plainReadRequest m t a z) true) = _
    rw [State.offer_of_farOpen hopen (State.dispose_plainRead hok) rfl]
    rfl
  · show Host.Outcome.next (s.offer (plainWriteRequest m t a z d b) true) = _
    rw [State.offer_of_farOpen hopen (State.dispose_plainWrite_outside hok hout) rfl]
    rfl
  · refine ⟨_, congrArg Host.Outcome.next (State.offer_of_farOpen hopen (State.dispose_linked_outside hok hout) rfl), ?_,
      fun i k => ?_⟩
    · rfl
    · refine (s.quiet.nomonMark_setNomon m i t k true).trans (if_congr ?_ rfl rfl)
      rw [eq_comm (a := m), eq_comm (a := t)]

/-! Linked reads. -/

@[simp] theorem linkedRequest_master (m : Master) (t : Tag) (k : Kind) (a : Addr) (z : SizeCode) :
    (linkedRequest m t k a z).master = m := rfl
@[simp] theorem linkedRequest_tag (m : Master) (t : Tag) (k : Kind) (a : Addr) (z : SizeCode) :
    (linkedRequest m t k a z).tag = t := rfl
@[simp] theorem linkedRequest_address (m : Master) (t : Tag) (k : Kind) (a : Addr) (z : SizeCode) :
    (linkedRequest m t k a z).address = a := rfl
@[simp] theorem linkedRequest_size (m : Master) (t : Tag) (k : Kind) (a : Addr) (z : SizeCode) :
    (linkedRequest m t k a z).size = z := rfl
@[simp] theorem linkedRequest_toFar (m : Master) (t : Tag) (a : Addr) (z : SizeCode) :
    (linkedRequest m t .read a z).toFar = farRead m t a z := rfl

theorem State.clearReservation_flight_eq (s : State) (m : Master) : (s.clearReservation m).flight = unmarked m s.flight := by
  simp [State.clearReservation, unmarked]

theorem State.clearReservation_released_eq (s : State) (m : Master) :
    (s.clearReservation m).released = disarmed m s.released := by
  simp [State.clearReservation, disarmed]

/-- The range of one granule follows the window table. -/
theorem oneGranule_congr {s u : State} (h : u.windows = s.windows) (g : Granule) : oneGranule u g = oneGranule s g := by
  simp only [oneGranule, State.granuleBytes, State.window, h]

section

variable {s : State} {m : Master} {t : Tag} {a : Addr} {z : SizeCode} {w : WindowIx}

/-- A linked read with no write in flight, that is forwarded and arms without a move (R25, R27). -/
theorem State.offer_arms {g : Granule} {h : Option EntryIx} (hopen : listOpen s)
    (hd : s.dispose (linkedRequest m t .read a z) = .forwardLinked g h)
    (hmove : s.quiet.move m g = s.quiet.clearReservation m) :
    ∃ u, exec (.linkedRead m t .read a z true) s = .next u ∧
      u = { s with
        contexts := u.contexts
        flight := unmarked m s.flight ++ [{ kind := .lread true h, master := m, tag := t, address := a,
                                            range := oneGranule s g }]
        out := moved (some (farRead m t a z)) none } ∧
      ∀ i, u.ctx i = if i = m then { s.ctx i with reservation := some g } else s.ctx i := by
  have hnone : s.released = [] := hopen.1.2
  refine ⟨_, congrArg Host.Outcome.next (State.offer_of_listOpen hopen hd), ?_, fun i => ?_⟩ <;>
    rw [State.carryOut_forwardLinked, linkedRequest_master, hmove]
  · apply State.ext
    case flight =>
      simp only [State.took_flight, State.forwarded_flight, State.arm_flight, State.clearReservation_flight_eq,
        unmarked_unmarked, oneGranule_congr (State.clearReservation_windows s.quiet m)]
      rfl
    case released => simp [State.clearReservation_released_eq, hnone, disarmed]
    case out => simp [moved, Out.none]
    all_goals simp
  · simp only [State.took_ctx, State.forwarded_ctx, State.arm_ctx, State.clearReservation_ctx, State.quiet_ctx]
    split_ifs <;> rfl

/-- A linked read that is parked behind a write in flight without a move (R26, R27). -/
theorem State.offer_parks {g : Granule} {far : Bool} (hopen : portOpen s)
    (hd : s.dispose (linkedRequest m t .read a z) = .parkHazard g)
    (hmove : s.quiet.move m g = s.quiet.clearReservation m) :
    ∃ u, exec (.linkedRead m t .read a z far) s = .next u ∧
      u = { s with
        contexts := u.contexts
        flight := unmarked m s.flight
        hazard := s.hazard ++ [m]
        released := disarmed m s.released
        out := moved none none } ∧
      ∀ i, u.ctx i = if i = m then
          { reservation := none, parked := some (parkedAs t a z g .hazard), holdership := (s.ctx m).holdership }
        else s.ctx i := by
  refine ⟨_, congrArg Host.Outcome.next (State.offer_of_portOpen far hopen hd rfl), ?_, fun i => ?_⟩ <;>
    rw [State.carryOut_parkHazard, linkedRequest_master, hmove]
  · apply State.ext
    case flight => simp [State.clearReservation_flight_eq]
    case released => simp [State.clearReservation_released_eq]
    case hazard => simp
    case out => simp [moved, Out.none]
    all_goals simp
  · simp only [State.took_ctx, State.ctx_mk, State.contexts_getElem, State.park_ctx, State.clearReservation_ctx,
      State.quiet_ctx, linkedRequest_master, linkedRequest_tag, linkedRequest_address, linkedRequest_size]
    split_ifs with hi
    · rw [hi]
    · rfl

/-- In WATCH a linked read is forwarded or parked, as a write in flight covers the granule or not (R25, R26). -/
theorem State.judgeRead_of_inWatch {g : Granule} (hwatch : inWatch s g) :
    s.judgeRead m g = if s.covered g then .parkHazard g else .forwardLinked g (s.heldEntry m g) := by
  simp only [State.judgeRead, State.servingEntry_of_inWatch hwatch]

/-- The holder's linked read is forwarded or parked in the same way (R27). -/
theorem State.judgeRead_of_holder {g : Granule} {e : EntryIx} (h : tracks s e g) (hserv : (s.entry e).serving = true)
    (hh : (s.entry e).holder = some m) :
    s.judgeRead m g = if s.covered g then .parkHazard g else .forwardLinked g (some e) := by
  simp only [State.judgeRead, State.servingEntry_of_tracks h hserv, hh, if_true]

/-- Any other master's linked read joins the queue (R28). -/
theorem State.judgeRead_of_other {g : Granule} {e : EntryIx} (h : tracks s e g) (hserv : (s.entry e).serving = true)
    (hh : (s.entry e).holder ≠ some m) : s.judgeRead m g = .joinQueue g e := by
  simp only [State.judgeRead, State.servingEntry_of_tracks h hserv, if_neg hh]

end

/-- Settles O9: nothing holds the read back, and its master holds no entry to name. -/
theorem linkedReadArms : Obligations.LinkedReadArms := by
  intro m t a z w s hopen hok hin hwatch hcov hholds
  refine State.offer_arms hopen ?_ (State.move_of_holdsNone hholds.1)
  rw [State.dispose_linked_inside hok hin, State.judgeRead_of_inWatch hwatch, hcov,
    State.heldEntry_of_holdsNone fun e _ => hholds.2 e]
  rfl

/-- Settles O10: the write in flight holds the read back. -/
theorem linkedReadParksBehindWrite : Obligations.LinkedReadParksBehindWrite := by
  intro m t a z far w s hopen hok hin hwatch hcov hholds
  have h := State.offer_parks (g := s.granuleOf w a) (far := far) hopen (by
    rw [State.dispose_linked_inside hok hin, State.judgeRead_of_inWatch hwatch, hcov]
    rfl) (State.move_of_holdsNone hholds.1)
  rw [hholds.1] at h
  exact h

/-- Settles O11: the holder stays on its granule, so no move releases it. -/
theorem holderRereads : Obligations.HolderRereads := by
  intro m t a z w e s hok hin htracks hserv ⟨hold, honly⟩
  have hh : (s.entry e).holder = some m := (honly e).mpr rfl
  have hmove : s.quiet.move m (s.granuleOf w a) = s.quiet.clearReservation m := State.move_of_holdsOwn (e := e) hold htracks.2.1
  refine ⟨fun hopen hcov => State.offer_arms hopen ?_ hmove, fun far hopen hcov => ?_⟩
  · rw [State.dispose_linked_inside hok hin, State.judgeRead_of_holder htracks hserv hh, hcov]
    rfl
  · have h := State.offer_parks (g := s.granuleOf w a) (far := far) hopen (by
      rw [State.dispose_linked_inside hok hin, State.judgeRead_of_holder htracks hserv hh, hcov]
      rfl) hmove
    rw [hold] at h
    exact h

end Sys2Proof.Machine
end

section
/-! SUPPORT. Linked reads that join a grant queue (O12, O13), and those that move their master from another granule (O14). -/

namespace Sys2Proof.Machine

open Sys2Proof.Safety Sys2Proof.Claim

/-! Other outputs change no record. -/

section

variable (s : State) (o : Out)

@[simp] theorem State.withOut_windows : (s.withOut o).windows = s.windows := rfl
@[simp] theorem State.withOut_mon : (s.withOut o).mon = s.mon := rfl
@[simp] theorem State.withOut_sampleCode : (s.withOut o).sampleCode = s.sampleCode := rfl
@[simp] theorem State.withOut_mask : (s.withOut o).mask = s.mask := rfl
@[simp] theorem State.withOut_flight : (s.withOut o).flight = s.flight := rfl
@[simp] theorem State.withOut_hazard : (s.withOut o).hazard = s.hazard := rfl
@[simp] theorem State.withOut_nomon : (s.withOut o).nomon = s.nomon := rfl
@[simp] theorem State.withOut_released : (s.withOut o).released = s.released := rfl
@[simp] theorem State.withOut_replies : (s.withOut o).replies = s.replies := rfl
@[simp] theorem State.withOut_notices : (s.withOut o).notices = s.notices := rfl
@[simp] theorem State.withOut_overflow : (s.withOut o).overflow = s.overflow := rfl
@[simp] theorem State.withOut_discardMark : (s.withOut o).discardMark = s.discardMark := rfl
@[simp] theorem State.withOut_link : (s.withOut o).link = s.link := rfl
@[simp] theorem State.withOut_sampleTimer : (s.withOut o).sampleTimer = s.sampleTimer := rfl
@[simp] theorem State.withOut_sampleLength : (s.withOut o).sampleLength = s.sampleLength := rfl
@[simp] theorem State.withOut_atExpiry : (s.withOut o).atExpiry = s.atExpiry := rfl
@[simp] theorem State.withOut_unitCounter : (s.withOut o).unitCounter = s.unitCounter := rfl
@[simp] theorem State.withOut_refclkRunning : (s.withOut o).refclkRunning = s.refclkRunning := rfl
@[simp] theorem State.withOut_resetLow : (s.withOut o).resetLow = s.resetLow := rfl
@[simp] theorem State.withOut_inReset : (s.withOut o).inReset = s.inReset := rfl
@[simp] theorem State.withOut_draws : (s.withOut o).draws = s.draws := rfl
@[simp] theorem State.withOut_pending : (s.withOut o).pending = s.pending := rfl
@[simp] theorem State.withOut_ctx (m : Master) : (s.withOut o).ctx m = s.ctx m := rfl
@[simp] theorem State.withOut_entry (e : EntryIx) : (s.withOut o).entry e = s.entry e := rfl
@[simp] theorem State.withOut_window (w : WindowIx) : (s.withOut o).window w = s.window w := rfl
@[simp] theorem State.withOut_out : (s.withOut o).out = o := rfl

end

/-- An entry that tracks a granule still does when states and granules stay. -/
theorem tracks.congr {s u : State} {e : EntryIx} {g : Granule} (h : tracks s e g)
    (used : ∀ i, (u.entry i).state ≠ .free ↔ (s.entry i).state ≠ .free)
    (granule : ∀ i, (u.entry i).granule = (s.entry i).granule) : tracks u e g := by
  obtain ⟨hused, hgran, honly⟩ := h
  refine ⟨(used e).mpr hused, (granule e).trans hgran, fun i hi hui => ?_⟩
  rw [granule]
  exact honly i hi ((used i).mp hui)

/-- A contention event on a tracked granule is counted on its entry (R73, R74). -/
theorem State.contentionEvent_of_tracks {s : State} {e : EntryIx} {g : Granule} (h : tracks s e g)
    (hallowed : (s.window g.window).queuedAllowed = true) :
    s.contentionEvent g = s.updEntry e fun x => { x with count := min (x.count + 1) 15 } := by
  simp [State.contentionEvent, hallowed, State.entryFor_of_tracks h, Config.countMax]

/-- The records of a linked read that has joined the queue of an entry, before the grant that may follow (R28). -/
def State.joined (s : State) (m : Master) (t : Tag) (a : Addr) (z : SizeCode) (g : Granule) (e : EntryIx) : State :=
  (s.updCtx m fun c => { c with parked := some (parkedAs t a z g (.queue e)) }).updEntry e
    fun y => { y with count := min (y.count + 1) 15, queue := y.queue ++ [m] }

section

variable {s : State} {m : Master} {t : Tag} {a : Addr} {z : SizeCode} {g : Granule} {e : EntryIx}

theorem State.park_linked (why : ParkReason) : s.park (linkedRequest m t .read a z) g why =
    s.updCtx m fun c => { c with parked := some (parkedAs t a z g why) } := rfl

theorem State.joinQueue_eq (h : tracks s e g) (hallowed : (s.window g.window).queuedAllowed = true) :
    s.joinQueue (linkedRequest m t .read a z) g e = (s.joined m t a z g e).attemptGrant e := by
  unfold State.joinQueue State.joined
  dsimp only
  rw [State.park_linked, State.contentionEvent_of_tracks (e := e), State.updEntry_updEntry]
  · rfl
  · refine tracks.congr h (fun i => ?_) fun i => ?_ <;> rw [State.entry_updEntry, State.updCtx_entry] <;> split_ifs <;> rfl
  · simpa using hallowed

theorem State.joined_ctx (i : Master) :
    (s.joined m t a z g e).ctx i =
      if i = m then { s.ctx i with parked := some (parkedAs t a z g (.queue e)) } else s.ctx i := by
  simp [State.joined]

theorem State.joined_entry (i : EntryIx) :
    (s.joined m t a z g e).entry i =
      if i = e then { s.entry i with count := min ((s.entry i).count + 1) 15, queue := (s.entry i).queue ++ [m] }
      else s.entry i := by
  simp [State.joined]

theorem State.joined_covered (g' : Granule) : (s.joined m t a z g e).covered g' = s.covered g' :=
  State.covered_congr (by simp [State.joined]) (by simp [State.joined]) g'

/-- The entry joined grants as far as it has no holder and no write covers its granule. -/
theorem State.attemptGrant_joined (hserv : (s.entry e).serving = true) :
    (s.joined m t a z g e).attemptGrant e =
      if (s.entry e).holder = none then settled e (s.joined m t a z g e) else s.joined m t a z g e := by
  have hself := s.joined_entry (m := m) (t := t) (a := a) (z := z) (g := g) (e := e) e
  rw [if_pos rfl] at hself
  have hgrantable := (s.joined m t a z g e).grantable_iff e
  have hqueue : ((s.joined m t a z g e).entry e).queue ≠ [] := by rw [hself]; simp
  have hserv' : ((s.joined m t a z g e).entry e).serving = true := by rw [hself]; exact hserv
  have hholder : ((s.joined m t a z g e).entry e).holder = (s.entry e).holder := by rw [hself]
  rw [hholder] at hgrantable
  generalize s.joined m t a z g e = j at *
  unfold State.attemptGrant settled
  obtain ⟨k, rest, hq⟩ := List.exists_cons_of_ne_nil hqueue
  rw [hq, List.head?_cons]
  dsimp only
  split_ifs with h1 h2 h3 h3 h2
  all_goals simp_all [State.grant_eq_grantedTo]

/-- A read that waits behind the holder or a write in flight leaves the queue as it stands. -/
theorem State.settled_joined_of_covered (hgran : (s.entry e).granule = g) (hcov : s.covered g = true) :
    settled e (s.joined m t a z g e) = s.joined m t a z g e := by
  have hself := s.joined_entry (m := m) (t := t) (a := a) (z := z) (g := g) (e := e) e
  rw [if_pos rfl] at hself
  have hqueue : ((s.joined m t a z g e).entry e).queue ≠ [] := by rw [hself]; simp
  have hcov' : (s.joined m t a z g e).covered ((s.joined m t a z g e).entry e).granule = true := by
    rw [State.joined_covered, hself, show ({ s.entry e with
      count := min ((s.entry e).count + 1) 15, queue := (s.entry e).queue ++ [m] } : Entry).granule = g from hgran]
    exact hcov
  obtain ⟨k, rest, hq⟩ := List.exists_cons_of_ne_nil hqueue
  unfold settled
  rw [hq, hcov']
  rfl

/-- A read that joins an empty queue is its head: with no write in flight on the granule it is granted. -/
theorem State.settled_joined_of_open (hqueue : (s.entry e).queue = []) (hgran : (s.entry e).granule = g)
    (hcov : s.covered g = false) : settled e (s.joined m t a z g e) = grantedTo m [] e (s.joined m t a z g e) := by
  have hself := s.joined_entry (m := m) (t := t) (a := a) (z := z) (g := g) (e := e) e
  rw [if_pos rfl, hqueue] at hself
  have hcov' : (s.joined m t a z g e).covered ((s.joined m t a z g e).entry e).granule = false := by
    rw [State.joined_covered, hself]
    simpa [hgran] using hcov
  have hq : ((s.joined m t a z g e).entry e).queue = [m] := by rw [hself]; rfl
  unfold settled
  rw [hq, hcov']
  rfl

end

theorem State.joined_window (s : State) (m : Master) (t : Tag) (a : Addr) (z : SizeCode) (g : Granule) (e : EntryIx)
    (i : WindowIx) : (s.joined m t a z g e).window i = s.window i := by
  simp [State.joined]

/-! The grant and what follows a release, field by field. -/

theorem grantedTo_ctx (k : Master) (rest : List Master) (e : EntryIx) (s : State) (i : Master) :
    (grantedTo k rest e s).ctx i = if i = k then { s.ctx i with parked := none, holdership := some e } else s.ctx i := by
  simp [grantedTo]

theorem grantedTo_entry (k : Master) (rest : List Master) (e : EntryIx) (s : State) (i : EntryIx) :
    (grantedTo k rest e s).entry i = if i = e then
        { s.entry i with holder := some k, tenure := (s.window (s.entry i).granule.window).tenure.toNat, queue := rest }
      else s.entry i := by
  simp [grantedTo]

theorem settled_flight (e : EntryIx) (s : State) : (settled e s).flight = s.flight := by
  unfold settled
  split <;> split_ifs <;> simp [grantedTo]

theorem settled_windows (e : EntryIx) (s : State) : (settled e s).windows = s.windows := by
  unfold settled
  split <;> split_ifs <;> simp [grantedTo]

/-- What follows a release touches no other entry. -/
theorem settled_entry_of_ne {e i : EntryIx} (s : State) (h : i ≠ e) : (settled e s).entry i = s.entry i := by
  unfold settled
  split <;> split_ifs <;> simp [grantedTo, h]

theorem settled_granule (e i : EntryIx) (s : State) : ((settled e s).entry i).granule = (s.entry i).granule := by
  unfold settled
  split <;> split_ifs
  · rfl
  · rw [grantedTo_entry]; split_ifs <;> rfl
  · rw [State.notify_entry, State.entry_updEntry]; split_ifs <;> rfl
  · rfl

/-- What follows a release frees no entry. -/
theorem settled_used (e i : EntryIx) (s : State) : ((settled e s).entry i).state ≠ .free ↔ (s.entry i).state ≠ .free := by
  unfold settled
  split <;> split_ifs with h
  · rfl
  · rw [grantedTo_entry]; split_ifs <;> rfl
  · rw [State.notify_entry, State.entry_updEntry]
    split_ifs with hi
    · simp [hi, h]
    · rfl
  · rfl

/-- The near port takes a linked read to a granule in queued operation that its master does not hold (R28). -/
theorem State.offer_joins {s : State} {m : Master} {t : Tag} {a : Addr} {z : SizeCode} {far : Bool} {w : WindowIx}
    {e : EntryIx} {t' : State} (hopen : portOpen s) (hok : s.refusal (linkedRequest m t .read a z) = none)
    (hin : s.classify a = some w) (htracks : tracks s e (s.granuleOf w a)) (hserv : (s.entry e).serving = true)
    (hother : (s.entry e).holder ≠ some m) (hmove : s.quiet.move m (s.granuleOf w a) = t'.withOut Out.none)
    (htracks' : tracks t' e (s.granuleOf w a)) (hentry : (t'.entry e) = s.entry e)
    (hallowed : (t'.window w).queuedAllowed = true) :
    exec (.linkedRead m t .read a z far) s = .next { (if (s.entry e).holder = none
        then settled e (t'.joined m t a z (s.granuleOf w a) e) else t'.joined m t a z (s.granuleOf w a) e) with
      out := moved none none } := by
  have hd : s.dispose (linkedRequest m t .read a z) = .joinQueue (s.granuleOf w a) e := by
    rw [State.dispose_linked_inside hok hin, State.judgeRead_of_other htracks hserv hother]
  have hjoined : (t'.withOut Out.none).joined m t a z (s.granuleOf w a) e =
      (t'.joined m t a z (s.granuleOf w a) e).withOut Out.none := rfl
  have hserv' : ((t'.withOut Out.none).entry e).serving = true := by
    rw [show (t'.withOut Out.none).entry e = s.entry e from hentry]; exact hserv
  have hholder : ((t'.withOut Out.none).entry e).holder = (s.entry e).holder := by
    rw [show (t'.withOut Out.none).entry e = s.entry e from hentry]
  show Host.Outcome.next (s.offer (linkedRequest m t .read a z) far) = _
  rw [State.offer_of_portOpen far hopen hd rfl, State.carryOut_joinQueue, linkedRequest_master, hmove,
    State.joinQueue_eq (s := t'.withOut Out.none) htracks' hallowed, State.attemptGrant_joined hserv', hholder, hjoined,
    settled_withOut, ← apply_ite (State.withOut · Out.none)]
  rfl

/-- Settles O12: the read joins the tail of the queue, and the holder or the write in flight keeps it waiting. -/
theorem linkedReadJoinsQueue : Obligations.LinkedReadJoinsQueue := by
  intro m t a z far w e s hopen hok hin htracks hserv hallowed hwaits hholds
  have hcleared := State.offer_joins (far := far) (t' := s.clearReservation m) hopen hok hin htracks hserv (hholds.2 e)
    (State.move_of_holdsNone hholds.1) (tracks.congr htracks (by simp) (by simp)) (by simp) (by simpa using hallowed)
  have hstays : (if (s.entry e).holder = none
      then settled e ((s.clearReservation m).joined m t a z (s.granuleOf w a) e)
      else (s.clearReservation m).joined m t a z (s.granuleOf w a) e) =
      (s.clearReservation m).joined m t a z (s.granuleOf w a) e := by
    split_ifs with hh
    · refine State.settled_joined_of_covered (by simpa using htracks.2.1) ?_
      rw [(s.loosened_clearReservation m).covered]
      exact hwaits.resolve_left (fun h => h hh)
    · rfl
  rw [hstays] at hcleared
  refine ⟨_, hcleared, ?_, fun i => ?_, fun i => ?_⟩
  · apply State.ext
    case flight => simp [State.joined, State.clearReservation_flight_eq]
    case released => simp [State.joined, State.clearReservation_released_eq]
    all_goals simp [State.joined]
  · simp only [State.ctx_mk, State.contexts_getElem, State.joined_ctx, State.clearReservation_ctx]
    split_ifs with hi
    · rw [hi, hholds.1]
    · rfl
  · simp only [State.entry_mk, State.contention_getElem, State.joined_entry, State.clearReservation_entry]

/-- Settles O13: with nobody before it and no write in flight, the read that joins is granted by the same event. -/
theorem emptyQueueJoinIsGranted : Obligations.EmptyQueueJoinIsGranted := by
  intro m t a z far w e s hopen hok hin htracks hserv hallowed hholder hqueue hcov hholds
  have hexec := State.offer_joins (far := far) (t' := s.clearReservation m) hopen hok hin htracks hserv (hholds.2 e)
    (State.move_of_holdsNone hholds.1) (tracks.congr htracks (by simp) (by simp)) (by simp) (by simpa using hallowed)
  rw [if_pos hholder, State.settled_joined_of_open (by simpa using hqueue) (by simpa using htracks.2.1)
    ((s.loosened_clearReservation m).covered _ |>.trans hcov)] at hexec
  refine ⟨_, hexec, ?_, fun i => ?_, fun i => ?_⟩
  · apply State.ext
    case flight => simp [grantedTo, State.joined, State.clearReservation_flight_eq]
    case released => simp [grantedTo, State.joined, State.clearReservation_released_eq, parkedAs, Parked.release]
    all_goals simp [grantedTo, State.joined]
  · simp only [State.ctx_mk, State.contexts_getElem, grantedTo_ctx, State.joined_ctx, State.clearReservation_ctx]
    split_ifs with hi <;> rfl
  · simp only [State.entry_mk, State.contention_getElem, grantedTo_entry, State.joined_entry, State.clearReservation_entry,
      State.joined_window, State.clearReservation_window]
    split_ifs with hi
    · rw [hi, htracks.2.1]
      rfl
    · rfl

/-! A holder that moves to another granule (O14). -/

/-- A cleared reservation leaves the hazard list as it is. -/
theorem hazardMatches_clearReservation {s : State} (h : HazardMatches s) (m : Master) :
    HazardMatches (s.clearReservation m) := by
  refine ⟨by simpa using h.1, fun i => ?_⟩
  rw [State.clearReservation_hazard, h.2 i, (s.loosened_clearReservation m).parked]

/-- A holder's linked read to another granule releases it by move (R23, R99). -/
theorem State.move_of_holdsOther {s : State} {m : Master} {e : EntryIx} {g : Granule} (hz : HazardMatches s)
    (h : holdsOnly s m e) (hserv : (s.entry e).serving = true) (hg : (s.entry e).granule ≠ g) :
    s.move m g = settled e (letGo m e (unreserved m s)) := by
  obtain ⟨hold, honly⟩ := h
  have hheld : ((s.clearReservation m).ctx m).holdership = some e := by simp [hold]
  have hh : ((s.clearReservation m).entry e).holder = some m := by simpa using (honly e).mpr rfl
  have hgran : ((s.clearReservation m).entry e).granule ≠ g := by simpa using hg
  unfold State.move
  dsimp only
  rw [hheld]
  dsimp only
  rw [if_pos ⟨hh, hgran⟩, State.releaseEntry_eq (hazardMatches_clearReservation hz m) hh (by simpa using hserv), unreserved_eq]

theorem Flight.unmark_dropHolder (p : Master → Bool) (m : Master) (e : EntryIx) (f : Flight) :
    (f.dropHolder m e).unmark p = (f.unmark p).dropHolder m e := by
  obtain ⟨kind, master, tag, address, range⟩ := f
  cases kind with
  | lread armed named =>
    simp only [Flight.unmark, Flight.dropHolder]
    split_ifs <;> simp_all
  | write => rfl
  | cwrite => rfl

/-- A master without a reservation lets go of the flight list's holder-entries alone. -/
theorem letGo_flight_of_none {s : State} {m : Master} {e : EntryIx} (h : (s.ctx m).reservation = none) :
    (letGo m e s).flight = unnamed m e s.flight := by
  have hg : decide ((s.ctx m).reservation = some (s.entry e).granule) = false := by simp [h]
  unfold letGo
  simp [hg]

section

variable {s : State} {m : Master} {e : EntryIx}

/-- The marks of a master that left its entry are clear already (R23, R29). -/
theorem unmarked_left : unmarked m (settled e (letGo m e (unreserved m s))).flight =
    (settled e (letGo m e (unreserved m s))).flight := by
  rw [settled_flight, letGo_flight_of_none (by simp [unreserved_eq])]
  have hcommute : ∀ l : List Flight, unmarked m (unnamed m e l) = unnamed m e (unmarked m l) := fun l => by
    simp [unmarked, unnamed, Flight.unmark_dropHolder]
  rw [hcommute, show (unreserved m s).flight = unmarked m s.flight from rfl, unmarked_unmarked]

theorem left_windows : (settled e (letGo m e (unreserved m s))).windows = s.windows := by
  rw [settled_windows, letGo_frame]
  rfl

theorem left_entry_of_ne {i : EntryIx} (h : i ≠ e) : (settled e (letGo m e (unreserved m s))).entry i = s.entry i := by
  rw [settled_entry_of_ne _ h, letGo_entry, if_neg h, unreserved_eq, State.clearReservation_entry]

/-- The move takes no entry from its granule. -/
theorem tracks_left {x : EntryIx} {g : Granule} (h : tracks s x g) : tracks (settled e (letGo m e (unreserved m s))) x g := by
  refine tracks.congr h (fun i => ?_) fun i => ?_
  · rw [settled_used, letGo_entry, unreserved_eq, State.clearReservation_entry]
    split_ifs <;> rfl
  · rw [settled_granule, letGo_entry, unreserved_eq, State.clearReservation_entry]
    split_ifs <;> rfl

end

/-- Settles O14: the move is a release by its parts, and what follows is each mode's own rule in the state it leaves. -/
theorem moveReleasesHolder : Obligations.MoveReleasesHolder := by
  intro m t a z w e s hz hok hin hholds hserv hgran
  dsimp only
  have hmove : s.quiet.move m (s.granuleOf w a) = (settled e (letGo m e (unreserved m s))).withOut Out.none := by
    rw [State.quiet_eq, State.move_of_holdsOther (s := s.withOut Out.none) hz hholds hserv hgran, unreserved_withOut,
      letGo_withOut, settled_withOut]
  refine ⟨fun hopen hwatch hcov => ?_, fun far hopen hwatch hcov => ?_, fun far x hopen htracks hservx hallowed => ?_⟩
  · have hd : s.dispose (linkedRequest m t .read a z) = .forwardLinked (s.granuleOf w a) none := by
      rw [State.dispose_linked_inside hok hin, State.judgeRead_of_inWatch hwatch, hcov,
        State.heldEntry_of_holdsNone fun x hx hh => hgran ((hholds.2 x).mp hh ▸ hx)]
      rfl
    show Host.Outcome.next (s.offer (linkedRequest m t .read a z) true) = _
    rw [State.offer_of_listOpen hopen hd, State.carryOut_forwardLinked, linkedRequest_master, hmove]
    have hmarks := unmarked_left (s := s) (m := m) (e := e)
    have hgrans := oneGranule_congr (left_windows (s := s) (m := m) (e := e)) (s.granuleOf w a)
    generalize settled e (letGo m e (unreserved m s)) = left at hmarks hgrans
    refine congrArg Host.Outcome.next ?_
    apply State.ext
    case flight =>
      rw [State.took_flight, State.forwarded_flight, State.arm_flight, State.withOut_flight, hmarks,
        oneGranule_congr (State.withOut_windows left Out.none), hgrans]
      rfl
    case out => simp [moved, Out.none]
    all_goals simp
  · have hd : s.dispose (linkedRequest m t .read a z) = .parkHazard (s.granuleOf w a) := by
      rw [State.dispose_linked_inside hok hin, State.judgeRead_of_inWatch hwatch, hcov]
      rfl
    show Host.Outcome.next (s.offer (linkedRequest m t .read a z) far) = _
    rw [State.offer_of_portOpen far hopen hd rfl, State.carryOut_parkHazard, State.park_linked, linkedRequest_master, hmove]
    generalize settled e (letGo m e (unreserved m s)) = left
    refine congrArg Host.Outcome.next ?_
    apply State.ext
    case out => simp [moved, Out.none]
    all_goals simp
  · have hne : x ≠ e := fun h => hgran (h ▸ htracks.2.1)
    have hother : (s.entry x).holder ≠ some m := fun h => hne ((hholds.2 x).mp h)
    exact State.offer_joins hopen hok hin htracks hservx hother hmove (tracks_left htracks) (left_entry_of_ne hne)
      (by rw [State.window, left_windows]; exact hallowed)

end Sys2Proof.Machine
end

section
/-! SUPPORT. Writes in a window: those that pass or are plain (O17, O18, O22), those that fail (O19, O20), and the choice of
the entry that a contention event replaces (O21). -/

namespace Sys2Proof.Machine

open Sys2Proof.Safety Sys2Proof.Claim

theorem Flight.unmark_comp (p q : Master → Bool) (f : Flight) : (f.unmark p).unmark q = f.unmark fun i => p i || q i := by
  obtain ⟨kind, master, tag, address, range⟩ := f
  cases kind with
  | lread armed named =>
    simp only [Flight.unmark]
    cases hp : p master <;> cases hq : q master <;> simp [hq]
  | write => rfl
  | cwrite => rfl

/-! A forwarded write, in the obligations' words. -/

/-- The records of a write in flight over a range: the reservations it reaches are gone, and it joins the flight list (R33). -/
def State.written (s : State) (r : GranuleRange) (f : Flight) : State :=
  { s.mapCtx (fun _ c => afterWrite s r c) with flight := unmarkedIn s r s.flight ++ [f] }

section

variable {s : State} {m : Master} {g : Granule} {r : GranuleRange}

theorem afterWrite_eq (c : Context) : afterWrite s r c =
    if c.reservation.any fun g => s.inRange r g then { c with reservation := none } else c := by
  obtain ⟨reservation, parked, holdership⟩ := c
  cases reservation with
  | none => rfl
  | some g => cases h : s.inRange r g <;> simp [afterWrite, h]

theorem State.written_ctx (f : Flight) (i : Master) : (s.written r f).ctx i = afterWrite s r (s.ctx i) := by
  simp [State.written]

theorem State.written_flight (f : Flight) : (s.written r f).flight = unmarkedIn s r s.flight ++ [f] := rfl

/-- Clearing the reservations a write reaches, and tracking it. -/
theorem State.clearRange_track (f : Flight) (hnone : s.released = []) : (s.clearRange r).track f = s.written r f := by
  apply State.ext
  case ctx =>
    intro i
    simp only [State.track_ctx, State.clearRange, State.clearReservations_ctx, State.written_ctx, afterWrite_eq]
  all_goals simp [State.written, State.clearRange, hnone, unmarkedIn]

theorem State.granuleBytes_pos (s : State) (w : WindowIx) : 0 < s.granuleBytes w := by
  simp [State.granuleBytes, Window.granuleBytes]

/-- The range of a granule includes it. -/
theorem State.inRange_oneGranule (s : State) (g : Granule) : s.inRange (oneGranule s g) g = true := by
  simp [State.inRange, oneGranule, GranuleRange.includes, s.granuleBytes_pos]

theorem State.written_entry (s : State) (f : Flight) (i : EntryIx) : (s.written r f).entry i = s.entry i := by
  simp [State.written]

theorem State.written_windows (s : State) (f : Flight) : (s.written r f).windows = s.windows := by
  simp [State.written]

theorem State.covered_written (f : Flight) (hf : f.isWrite = true) (hr : s.inRange f.range g = true) :
    (s.written r f).covered g = true := by
  rw [State.covered_iff]
  exact ⟨f, by rw [State.written_flight]; simp, hf, (State.inRange_congr (s.written_windows f) _ _).trans hr⟩

/-- A reservation in the range of a write is cleared by it anyway. -/
theorem unmarkedIn_unmarked (hres : (s.ctx m).reservation = some g) (hin : s.inRange r g = true) (l : List Flight) :
    unmarkedIn (s.clearReservation m) r (unmarked m l) = unmarkedIn s r l := by
  have hrange : ∀ g', (s.clearReservation m).inRange r g' = s.inRange r g' :=
    State.inRange_congr (s.clearReservation_windows m) r
  have hmarks : (fun i => decide (i = m) || (((s.clearReservation m).ctx i).reservation.any fun g => s.inRange r g)) =
      fun i => (s.ctx i).reservation.any fun g => s.inRange r g := by
    funext i
    by_cases hi : i = m
    · simp [hi, hres, hin]
    · simp [hi]
  simp only [unmarkedIn, unmarked, List.map_map, hrange, Function.comp_def, Flight.unmark_comp, hmarks]

theorem afterWrite_clearReservation (hres : (s.ctx m).reservation = some g) (hin : s.inRange r g = true) (i : Master) :
    afterWrite (s.clearReservation m) r ((s.clearReservation m).ctx i) = afterWrite s r (s.ctx i) := by
  have hrange : ∀ g', (s.clearReservation m).inRange r g' = s.inRange r g' :=
    State.inRange_congr (s.clearReservation_windows m) r
  simp only [afterWrite_eq, hrange, State.clearReservation_ctx]
  by_cases hi : i = m
  · simp [hi, hres, hin]
  · simp [hi]

/-- A conditional write that passes clears its own reservation with the others on its granule. -/
theorem State.consume_eq (hnone : s.released = []) (t : Tag) (k : Kind) (a : Addr) (z : SizeCode) (d : Data) (b : Strobes)
    (hres : (s.ctx m).reservation = some g) : s.consume (conditionalRequest m t k a z d b) g =
      s.written (oneGranule s g)
        { kind := .cwrite, master := m, tag := t, address := a, range := oneGranule s g } := by
  have hin : s.inRange (oneGranule s g) g = true := s.inRange_oneGranule g
  have hrange : s.rangeOf g = oneGranule s g := rfl
  have hrange' : (((s.clearReservation m).clearRange (oneGranule s g)).rangeOf g) = oneGranule s g :=
    oneGranule_congr (by simp) g
  have hnone' : (s.clearReservation m).released = [] := by simp [State.clearReservation_released_eq, hnone, disarmed]
  unfold State.consume
  dsimp only [conditionalRequest]
  rw [hrange, hrange', State.clearRange_track _ hnone']
  generalize oneGranule s g = r at *
  apply State.ext
  case ctx =>
    intro i
    rw [State.written_ctx, State.written_ctx, afterWrite_clearReservation hres hin]
  case flight =>
    rw [State.written_flight, State.written_flight, State.clearReservation_flight_eq, unmarkedIn_unmarked hres hin]
  case released => simp [State.written, hnone, hnone']
  all_goals simp [State.written]

end

/-- Settles O22: every reservation the full size reaches is cleared, whoever wrote. -/
theorem plainWriteClearsReservations : Obligations.PlainWriteClearsReservations := by
  intro m t a z d b w s hopen hok hin
  refine ⟨_, congrArg Host.Outcome.next (State.offer_of_listOpen hopen (State.dispose_plainWrite_inside hok hin)), ?_,
    fun i => ?_⟩ <;>
    rw [State.carryOut_forwardWrite, State.clearRange_track (s := s.quiet) _ hopen.1.2]
  · apply State.ext
    case out => simp [moved, Out.none, State.written, plainWriteRequest, Request.toFar, farWrite]
    case flight =>
      rw [State.took_flight, State.forwarded_flight, State.written_flight]
      rfl
    all_goals simp [State.written]
  · rw [State.took_ctx, State.forwarded_ctx, State.written_ctx]
    rfl

/-! Conditional writes that pass (O17, O18). -/

section

variable {s : State} {m : Master} {g : Granule}

theorem State.passes_of_inWatch (hwatch : inWatch s g) (hres : (s.ctx m).reservation = some g) : s.passes m g = true := by
  simp [State.passes, hres, State.servingEntry_of_inWatch hwatch]

theorem State.passes_of_holder {e : EntryIx} (h : tracks s e g) (hserv : (s.entry e).serving = true)
    (hh : (s.entry e).holder = some m) (hres : (s.ctx m).reservation = some g) : s.passes m g = true := by
  simp [State.passes, hres, State.servingEntry_of_tracks h hserv, hh]

theorem State.passes_of_failsOn (h : failsOn s m g) : s.passes m g = false := by
  obtain hres | ⟨e, htracks, hserv, hh⟩ := h
  · simp [State.passes, hres]
  · simp [State.passes, State.servingEntry_of_tracks htracks hserv, hh]

theorem State.heldEntry_of_tracks {e : EntryIx} (h : tracks s e g) (hh : (s.entry e).holder = some m) :
    s.heldEntry m g = some e := by
  simp [State.heldEntry, State.entryFor_of_tracks h, hh]

end

theorem State.heldEntry_written (s : State) (m : Master) (g : Granule) (r : GranuleRange) (f : Flight) :
    (s.written r f).heldEntry m g = s.heldEntry m g := by
  simp only [State.heldEntry, State.entryFor, State.written_entry]

theorem conditionalRequest_toFar (m : Master) (t : Tag) (a : Addr) (z : SizeCode) (d : Data) (b : Strobes) :
    (conditionalRequest m t .write a z d b).toFar = farWrite m t a z d b := rfl

/-- What the near port does with a conditional write that passes (R44, R45). -/
theorem State.offer_passes {s : State} {m : Master} {t : Tag} {a : Addr} {z : SizeCode} {d : Data} {b : Strobes} {w : WindowIx}
    (hopen : listOpen s) (hok : s.refusal (conditionalRequest m t .write a z d b) = none) (hin : s.classify a = some w)
    (hres : (s.ctx m).reservation = some (s.granuleOf w a)) (hpass : s.passes m (s.granuleOf w a) = true) :
    let r := oneGranule s (s.granuleOf w a)
    let s1 := (s.withOut Out.none).written r { kind := .cwrite, master := m, tag := t, address := a, range := r }
    exec (.conditionalWrite m t .write a z d b true) s = .next ((match s.heldEntry m (s.granuleOf w a) with
      | some e => s1.releaseEntry e
      | none => s1).forwarded (farWrite m t a z d b)).took := by
  have hd : s.dispose (conditionalRequest m t .write a z d b) = .writePasses (s.granuleOf w a) := by
    rw [State.dispose_conditional_inside hok hin, hpass]
    rfl
  show Host.Outcome.next (s.offer (conditionalRequest m t .write a z d b) true) = _
  rw [State.offer_of_listOpen hopen hd, State.carryOut_writePasses, State.passWrite_eq,
    State.consume_eq (s := s.quiet) hopen.1.2 t .write a z d b hres, State.heldEntry_written]
  rfl

/-- Settles O17: in WATCH no holdership stands in the way, and none ends. -/
theorem passingWriteForwarded : Obligations.PassingWriteForwarded := by
  intro m t a z d b w s hopen hok hin hres hwatch hholds
  have hexec := State.offer_passes hopen hok hin hres (State.passes_of_inWatch hwatch hres)
  dsimp only at hexec
  rw [State.heldEntry_of_holdsNone fun e _ => hholds.2 e] at hexec
  dsimp only at hexec
  refine ⟨_, hexec, ?_, ?_, fun i => ?_⟩
  · apply State.ext
    case flight =>
      rw [State.took_flight, State.forwarded_flight, State.written_flight]
      rfl
    case out => simp [moved, Out.none, State.written]
    all_goals simp [State.written]
  · rw [State.took_ctx, State.forwarded_ctx, State.written_ctx, afterWrite_eq, State.withOut_ctx, hres, Option.any_some,
      State.inRange_congr (s.withOut_windows Out.none), State.inRange_oneGranule]
    rfl
  · rw [State.took_ctx, State.forwarded_ctx, State.written_ctx]
    rfl

theorem State.covered_withOut (v : State) (o : Out) (g : Granule) : (v.withOut o).covered g = v.covered g := rfl

theorem State.forwarded_took_withOut (v : State) (q : FarRequest) :
    ((v.withOut Out.none).forwarded q).took = v.withOut (moved (some q) none) := rfl

theorem State.written_withOut (s : State) (o : Out) (r : GranuleRange) (f : Flight) :
    (s.withOut o).written r f = (s.written r f).withOut o := rfl

theorem hazardMatches_written {s : State} (h : HazardMatches s) (r : GranuleRange) (f : Flight) :
    HazardMatches (s.written r f) := by
  refine ⟨by simpa [State.written] using h.1, fun i => ?_⟩
  have hparked : ((s.written r f).ctx i).parked = (s.ctx i).parked := by rw [State.written_ctx]; rfl
  have hlist : (s.written r f).hazard = s.hazard := by simp [State.written]
  rw [hparked, hlist]
  exact h.2 i

/-- After a release behind a write in flight, only a DRAIN entry left with nobody moves (R94, R102). -/
theorem settled_of_covered {e : EntryIx} {s : State} (h : s.covered (s.entry e).granule = true) :
    settled e s = if (s.entry e).queue = [] ∧ (s.entry e).state = .drain
      then (s.updEntry e fun x => { x with state := .watch }).notify (.granuleCool e (s.entry e).granule) else s := by
  unfold settled
  cases hq : (s.entry e).queue with
  | nil => simp
  | cons k rest => simp [h]

theorem covered_settled (e : EntryIx) (s : State) (g : Granule) : (settled e s).covered g = s.covered g :=
  State.covered_congr (settled_windows e s) (settled_flight e s) g

theorem covered_letGo (m : Master) (e : EntryIx) (s : State) (g : Granule) : (letGo m e s).covered g = s.covered g := by
  refine (State.covered_congr (s := letGo m e s) ?_ ?_ g).trans ((s.loosened_loosedFrom m e).covered g)
  · rw [letGo_frame, (s.loosened_loosedFrom m e).windows]
  · rw [letGo_frame]
    rfl

/-- A release in a state with other outputs. -/
theorem State.releaseEntry_withOut {v : State} {m : Master} {e : EntryIx} (o : Out) (hz : HazardMatches v)
    (hh : (v.entry e).holder = some m) (hserv : (v.entry e).serving = true) :
    (v.withOut o).releaseEntry e = (settled e (letGo m e v)).withOut o := by
  rw [State.releaseEntry_eq (s := v.withOut o) hz hh hserv, letGo_withOut, settled_withOut]

/-- What a notice leaves in the queue depends on the queue and the mask alone. -/
theorem State.notify_notices_congr {s v : State} (hmask : v.mask = s.mask) (hnotices : v.notices = s.notices) (n : Notice) :
    (v.notify n).notices = (s.notify n).notices := by
  unfold State.notify
  rw [hmask, hnotices]
  split_ifs <;> simp [hnotices]

theorem letGo_mask (m : Master) (e : EntryIx) (s : State) : (letGo m e s).mask = s.mask := by rw [letGo_frame]

theorem letGo_notices (m : Master) (e : EntryIx) (s : State) : (letGo m e s).notices = s.notices := by rw [letGo_frame]

/-- Settles O18: the master's own CWRITE covers the granule, so the release grants nobody. -/
theorem holderWriteCompletes : Obligations.HolderWriteCompletes := by
  intro m t a z d b w e s hz hopen hok hin hres htracks hserv hholds r s1
  have hh : (s.entry e).holder = some m := (hholds.2 e).mpr rfl
  have hs1 : s1 = s.written r { kind := .cwrite, master := m, tag := t, address := a, range := r } := rfl
  have hexec := State.offer_passes hopen hok hin hres (State.passes_of_holder htracks hserv hh hres)
  dsimp only at hexec
  rw [State.heldEntry_of_tracks htracks hh, State.written_withOut, ← hs1] at hexec
  dsimp only at hexec
  have hcov : s1.covered (s.granuleOf w a) = true := State.covered_written _ rfl (s.inRange_oneGranule _)
  have hz1 : HazardMatches s1 := hazardMatches_written hz _ _
  have hentry : s1.entry e = s.entry e := s.written_entry _ e
  have hctx : (s1.ctx m).parked = (s.ctx m).parked := by rw [hs1, State.written_ctx]; rfl
  have hmask : s1.mask = s.mask := rfl
  have hnotices : s1.notices = s.notices := rfl
  clear_value s1
  have hgran : ((letGo m e s1).entry e).granule = s.granuleOf w a := by
    rw [letGo_entry, if_pos rfl, hentry]; exact htracks.2.1
  rw [State.releaseEntry_withOut _ hz1 (hentry ▸ hh) (hentry ▸ hserv), State.forwarded_took_withOut] at hexec
  have hsettled := settled_of_covered (e := e) (s := letGo m e s1) (by rw [hgran, covered_letGo, hcov])
  refine ⟨_, hexec, rfl, ?_, ?_, fun hdrain hqueue hparked => ?_⟩
  · rw [State.covered_withOut, covered_settled, covered_letGo, hcov]
  · rw [State.withOut_entry, hsettled]
    split_ifs <;> simp [letGo_entry]
  · have hempty : ((letGo m e s1).entry e).queue = [] ∧ ((letGo m e s1).entry e).state = .drain := by
      rw [letGo_entry, if_pos rfl, hentry]
      simp [State.rereads, hctx, hparked, hqueue, hdrain]
    rw [if_pos hempty] at hsettled
    rw [State.withOut_entry, State.withOut_notices, hsettled]
    refine ⟨by simp, ?_⟩
    rw [hgran, ← htracks.2.1]
    refine State.notify_notices_congr ?_ ?_ _
    · rw [State.updEntry_mask, letGo_mask, hmask]
    · rw [State.updEntry_notices, letGo_notices, hnotices]

end Sys2Proof.Machine
end

section
/-! SUPPORT. Conditional writes that fail (O19, O20), and the entry a contention event replaces (O21). -/

namespace Sys2Proof.Machine

open Sys2Proof.Safety Sys2Proof.Claim

/-! A contention event, in the obligations' words. -/

section

variable {s : State} {g : Granule} {e : EntryIx}

/-- The FREE entry of lowest index is the one found (R74). -/
theorem State.freeEntry_eq_some_iff :
    s.freeEntry = some e ↔ (s.entry e).state = .free ∧ ∀ i, i < e → (s.entry i).state ≠ .free := by
  unfold State.freeEntry entryIxs
  rw [find?_eq_some_iff_least (f := fun i : EntryIx => i.val) (List.pairwise_lt_finRange 32)]
  simp

theorem State.freeEntry_eq_none_iff : s.freeEntry = none ↔ ∀ i, (s.entry i).state ≠ .free := by
  simp [State.freeEntry, entryIxs]

theorem State.entryFor_eq_none_iff : s.entryFor g = none ↔ ∀ i, (s.entry i).state ≠ .free → (s.entry i).granule ≠ g := by
  simp [State.entryFor, entryIxs]

theorem Entry.replaceable_iff (x : Entry) : x.replaceable = true ↔ x.state = .watch ∧ x.warm = false := by
  simp [Entry.replaceable]

/-- The choice among the WATCH entries is the coldest one (R75). -/
theorem State.coldest_of_coldestWatch (h : coldestWatch s e) : s.coldest = some e := by
  obtain ⟨hstate, hwarm, hleast⟩ := h
  have hmem : e ∈ entryIxs.filter fun e => (s.entry e).replaceable :=
    List.mem_filter.mpr ⟨List.mem_finRange e, (Entry.replaceable_iff _).mpr ⟨hstate, hwarm⟩⟩
  have hsorted : (entryIxs.filter fun e => (s.entry e).replaceable).Pairwise (· < ·) :=
    (List.pairwise_lt_finRange 32).filter _
  have hcand : ∀ i ∈ entryIxs.filter fun e => (s.entry e).replaceable,
      (s.entry e).fast < (s.entry i).fast ∨ ((s.entry e).fast = (s.entry i).fast ∧ e ≤ i) := fun i hi => by
    obtain ⟨hw, hc⟩ := (Entry.replaceable_iff _).mp (List.mem_filter.mp hi).2
    exact hleast i hw hc
  rw [State.coldest_eq]
  obtain ⟨before, after, hl⟩ := List.append_of_mem hmem
  rw [hl] at hsorted hcand ⊢
  obtain ⟨-, -, hcross⟩ := List.pairwise_append.mp hsorted
  refine foldl_leastStep_eq (fun i hi => ?_) fun i hi => ?_
  · have hlt := hcross i hi e (by simp)
    exact (hcand i (by simp [hi])).resolve_right fun h => absurd h.2 (not_le.mpr hlt)
  · exact (hcand i (by simp [hi])).elim le_of_lt fun h => h.1.le

theorem State.coldest_eq_none (h : ∀ i, (s.entry i).state = .watch → (s.entry i).warm = true) : s.coldest = none := by
  rw [State.coldest_eq, foldl_leastStep_none, List.filter_eq_nil_iff]
  intro i _ hi
  obtain ⟨hw, hc⟩ := (Entry.replaceable_iff _).mp hi
  rw [h i hw] at hc
  cases hc

/-- A contention event is counted as the rules say (R49, R73 to R76). -/
theorem counted_contentionEvent (g : Granule) (s : State) : counted g s (s.contentionEvent g) := by
  refine ⟨?_, fun hoff => ?_, fun hallowed => ⟨fun e he => State.contentionEvent_of_tracks he hallowed, fun hnew => ?_⟩⟩
  · apply State.ext
    all_goals simp
  · simp [State.contentionEvent, hoff]
  · have hfor := State.entryFor_eq_none_iff.mpr hnew
    refine ⟨fun e hfree hfirst => ?_, fun hfull => ⟨fun e hcold => ?_, fun hwarm => ?_⟩⟩
    · have := State.freeEntry_eq_some_iff.mpr ⟨hfree, hfirst⟩
      simp only [State.contentionEvent, hallowed, hfor, this]
      rfl
    · have := State.coldest_of_coldestWatch hcold
      simp only [State.contentionEvent, hallowed, hfor, State.freeEntry_eq_none_iff.mpr hfull, this]
      rfl
    · have := State.coldest_eq_none hwarm
      simp [State.contentionEvent, hallowed, hfor, State.freeEntry_eq_none_iff.mpr hfull, this]

end

/-- Settles O21: with every entry taken and none on the granule, the coldest is replaced, or nothing is. -/
theorem fullTableReplacesColdest : Obligations.FullTableReplacesColdest := by
  intro g s hallowed hfull hnew
  obtain ⟨-, -, hcounted⟩ := counted_contentionEvent g s
  obtain ⟨hreplaced, huntracked⟩ := ((hcounted hallowed).2 fun i _ => hnew i).2 hfull
  refine ⟨fun e hstate hwarm hleast => ?_, huntracked⟩
  rw [hreplaced e ⟨hstate, hwarm, hleast⟩]
  exact ⟨rfl, fun i => by simp [startedFor]⟩

/-! Conditional writes that fail (O19, O20). -/

theorem settled_replies (e : EntryIx) (s : State) : (settled e s).replies = s.replies := by
  unfold settled
  split <;> split_ifs <;> simp [grantedTo]

section

variable {s : State} {m : Master} {g : Granule} {o : Out}

theorem State.contentionEvent_withOut (s : State) (g : Granule) (o : Out) :
    (s.withOut o).contentionEvent g = (s.contentionEvent g).withOut o := by
  unfold State.contentionEvent
  have hfor : (s.withOut o).entryFor g = s.entryFor g := rfl
  have hfree : (s.withOut o).freeEntry = s.freeEntry := rfl
  have hcold : (s.withOut o).coldest = s.coldest := rfl
  rw [hfor, hfree, hcold, State.withOut_window]
  split_ifs
  · rfl
  · split
    · rfl
    · split
      · rfl
      · split
        · rfl
        · exact s.notify_withOut o _

/-- What the near port does with a conditional write that fails (R47 to R49). -/
theorem State.offer_fails {t : Tag} {a : Addr} {z : SizeCode} {d : Data} {b : Strobes} {w : WindowIx} (far : Bool)
    (hopen : portOpen s) (hok : s.refusal (conditionalRequest m t .write a z d b) = none) (hin : s.classify a = some w)
    (hfails : failsOn s m (s.granuleOf w a)) :
    exec (.conditionalWrite m t .write a z d b far) s = .next
      (((((unreserved m s).contentionEvent (s.granuleOf w a)).withOut Out.none).releaseHeld m).enqueue m t .exfail).took := by
  have hd : s.dispose (conditionalRequest m t .write a z d b) = .writeFails (s.granuleOf w a) := by
    rw [State.dispose_conditional_inside hok hin, State.passes_of_failsOn hfails]
    rfl
  show Host.Outcome.next (s.offer (conditionalRequest m t .write a z d b) far) = _
  rw [State.offer_of_portOpen far hopen hd rfl, State.carryOut_writeFails, State.failWrite, ← unreserved_eq,
    State.quiet_eq, unreserved_withOut, State.contentionEvent_withOut]
  rfl

theorem State.enqueue_took_withOut (v : State) (t : Tag) (st : ReplyStatus) :
    ((v.withOut Out.none).enqueue m t st).took =
      { v with replies := v.replies ++ [{ master := m, tag := t, status := st }], out := moved none none } := rfl

theorem State.releaseHeld_of_holdsNone (h : (s.ctx m).holdership = none) : s.releaseHeld m = s := by
  simp [State.releaseHeld, h]

theorem State.releaseHeld_of_holds {e : EntryIx} (h : (s.ctx m).holdership = some e) (hh : (s.entry e).holder = some m) :
    s.releaseHeld m = s.releaseEntry e := by
  simp [State.releaseHeld, h, hh]

/-- A contention event leaves an entry in QUEUED or DRAIN in its place: at most its count moves (R73 to R75). -/
theorem State.contentionEvent_serving (g : Granule) {e : EntryIx} (hserv : (s.entry e).serving = true) :
    ((s.contentionEvent g).entry e).serving = true ∧ ((s.contentionEvent g).entry e).holder = (s.entry e).holder := by
  obtain ⟨-, h⟩ | ⟨i, -, h⟩ | ⟨i, -, hidle, h⟩ | ⟨-, -, -, h⟩ := s.contentionEvent_cases g
  · rw [h]; exact ⟨hserv, rfl⟩
  · rw [h, State.entry_updEntry]
    split_ifs <;> exact ⟨hserv, rfl⟩
  · have hne : e ≠ i := by
      rintro rfl
      obtain hfree | ⟨-, hcold⟩ := hidle
      · simp [Entry.serving, (State.freeEntry_eq_some_iff.mp hfree).1] at hserv
      · have := ((Entry.replaceable_iff _).mp (State.coldest_replaceable hcold)).1
        simp [Entry.serving, this] at hserv
    rw [h, State.entry_updEntry, if_neg hne]
    exact ⟨hserv, rfl⟩
  · rw [h, State.notify_entry]; exact ⟨hserv, rfl⟩

theorem hazardMatches_contentionEvent (h : HazardMatches s) (g : Granule) : HazardMatches (s.contentionEvent g) := by
  refine ⟨by simpa using h.1, fun i => ?_⟩
  rw [State.contentionEvent_hazard, State.contentionEvent_ctx]
  exact h.2 i

end

/-- Settles O19: the write clears its reservation, is counted, and its master has no holdership to lose. -/
theorem failingWriteCounted : Obligations.FailingWriteCounted := by
  intro m t a z d b far w s hopen hok hin hfails hholds
  have hexec := State.offer_fails far hopen hok hin hfails
  have hreplies : ((unreserved m s).contentionEvent (s.granuleOf w a)).replies = s.replies := by simp [unreserved_eq]
  have hnone : (((unreserved m s).contentionEvent (s.granuleOf w a)).ctx m).holdership = none := by
    simp [unreserved_eq, hholds.1]
  refine ⟨_, counted_contentionEvent _ _, ?_⟩
  generalize (unreserved m s).contentionEvent (s.granuleOf w a) = v at *
  rw [hexec, State.releaseHeld_of_holdsNone (s := v.withOut Out.none) hnone, State.enqueue_took_withOut, hreplies]

/-- Settles O20: the entry held stays in its place through the count, and its release follows. -/
theorem holderFailureGrantsNext : Obligations.HolderFailureGrantsNext := by
  intro m t a z d b far w e s hz hopen hok hin hfails hserv hholds
  have hexec := State.offer_fails far hopen hok hin hfails
  have hheld : (((unreserved m s).contentionEvent (s.granuleOf w a)).ctx m).holdership = some e := by
    simp [unreserved_eq, hholds.1]
  have hkept := (unreserved m s).contentionEvent_serving (s.granuleOf w a) (e := e) (by simpa [unreserved_eq] using hserv)
  have hreplies : (settled e (letGo m e ((unreserved m s).contentionEvent (s.granuleOf w a)))).replies = s.replies := by
    rw [settled_replies, letGo_frame]
    simp [unreserved_eq]
  have hz' : HazardMatches ((unreserved m s).contentionEvent (s.granuleOf w a)) :=
    hazardMatches_contentionEvent (unreserved_eq m s ▸ hazardMatches_clearReservation hz m) _
  have hh : ((unreserved m s).entry e).holder = some m := by
    simpa [unreserved_eq] using (hholds.2 e).mpr rfl
  refine ⟨_, counted_contentionEvent _ _, ?_⟩
  rw [hh] at hkept
  generalize (unreserved m s).contentionEvent (s.granuleOf w a) = v at *
  rw [hexec, State.releaseHeld_of_holds (s := v.withOut Out.none) hheld hkept.2, State.releaseEntry_withOut _ hz' hkept.2 hkept.1,
    State.enqueue_took_withOut, hreplies]

end Sys2Proof.Machine
end

section
/-! SUPPORT. Withdrawals (O25, O26), the reply queue (O32), untracked far responses (O31), and the arbiter (O33, O34). -/

namespace Sys2Proof.Machine

open Sys2Proof.Safety Sys2Proof.Claim

/-! Withdrawals. -/

section

variable {s : State} {m : Master} {t : Tag}

theorem State.withdrawn_of_parked {p : Parked} (hp : (s.ctx m).parked = some p) (ht : p.tag = t) : s.withdrawn m t = some p := by
  simp [State.withdrawn, hp, ht]

theorem State.withdrawn_of_unparked (h : ∀ p, (s.ctx m).parked = some p → p.tag ≠ t) : s.withdrawn m t = none := by
  simp only [State.withdrawn, Option.filter_eq_none_iff, decide_eq_true_eq]
  exact h

/-- A withdrawal that names a parked read is taken with room for its reply (R39, R129). -/
theorem exec_withdraw_named {p : Parked} (hlive : s.live = true) (hp : (s.ctx m).parked = some p) (ht : p.tag = t)
    (hroom : s.replies.length < 4) : exec (.withdraw m t) s = .next (s.quiet.cancel m p).took := by
  obtain ⟨hrun, hreset⟩ := s.live_iff.mp hlive
  have hready : s.withdrawReady m t = true := (s.withdrawReady_iff m t).mpr ⟨hreset, fun _ _ _ => hroom⟩
  show execWithdraw m t s = _
  unfold execWithdraw
  dsimp only
  rw [if_pos (show (s.quiet.refclkRunning && s.quiet.withdrawReady m t) = true from Bool.and_eq_true_iff.mpr ⟨hrun, hready⟩),
    State.withdrawn_of_parked (s := s.quiet) hp ht]

/-- A withdrawal that names a parked read waits while the reply queue is full (R129). -/
theorem exec_withdraw_waits {p : Parked} (hp : (s.ctx m).parked = some p) (ht : p.tag = t)
    (hfull : 4 ≤ s.replies.length) : exec (.withdraw m t) s = .next s.quiet := by
  have hready : s.quiet.withdrawReady m t = false := Bool.eq_false_iff.mpr fun h => by
    have := ((s.withdrawReady_iff m t).mp h).2 p hp ht
    omega
  show execWithdraw m t s = _
  unfold execWithdraw
  dsimp only
  rw [hready, Bool.and_false, if_neg (by simp)]

/-- A withdrawal that names no parked read is taken with no effect (R129). -/
theorem exec_withdraw_unnamed (hlive : s.live = true) (h : ∀ p, (s.ctx m).parked = some p → p.tag ≠ t) :
    exec (.withdraw m t) s = .next s.quiet.took := by
  obtain ⟨hrun, hreset⟩ := s.live_iff.mp hlive
  have hready : s.withdrawReady m t = true :=
    (s.withdrawReady_iff m t).mpr ⟨hreset, fun p hp ht => absurd ht (h p hp)⟩
  show execWithdraw m t s = _
  unfold execWithdraw
  dsimp only
  rw [if_pos (show (s.quiet.refclkRunning && s.quiet.withdrawReady m t) = true from Bool.and_eq_true_iff.mpr ⟨hrun, hready⟩),
    State.withdrawn_of_unparked (s := s.quiet) h]

end

/-- Settles O25: the three ends of a withdrawal, by the read named and the room in the reply queue. -/
theorem withdrawHazardRead : Obligations.WithdrawHazardRead := by
  intro m t s hlive
  refine ⟨fun p hp ht hr hroom => ⟨_, exec_withdraw_named hlive hp ht hroom, ?_, fun i => ?_⟩,
    fun p hp ht hfull => exec_withdraw_waits hp ht hfull, fun h => exec_withdraw_unnamed hlive h,
    (s.withdrawReady_iff m t).trans ⟨fun h => h.2, fun h => ⟨(s.live_iff.mp hlive).2, h⟩⟩⟩ <;> rw [State.cancel_hazard _ m hr, ht]
  · apply State.ext
    case out => simp [moved, Out.none, State.unpark]
    all_goals simp [State.unpark]
  · rw [State.took_ctx, State.ctx_mk, State.contexts_getElem, State.unpark_ctx, State.quiet_ctx]

/-- A queued read has left its place, and what its entry does with nobody left is still to come. -/
def State.unqueued (s : State) (m : Master) (t : Tag) (e : EntryIx) : State :=
  (s.unpark m t).updEntry e fun x => { x with queue := x.queue.filter fun i => decide (i ≠ m) }

section

variable (s : State) (m : Master) (t : Tag) (e : EntryIx)

theorem State.unqueued_entry (i : EntryIx) : (s.unqueued m t e).entry i =
    if i = e then { s.entry i with queue := (s.entry i).queue.filter fun j => decide (j ≠ m) } else s.entry i := by
  simp [State.unqueued]

theorem State.unqueued_ctx (i : Master) :
    (s.unqueued m t e).ctx i = if i = m then { s.ctx i with parked := none } else s.ctx i := by
  simp [State.unqueued, State.unpark_ctx]

end

/-- What a notice leaves in its queue and flags depends on them and on the mask alone. -/
theorem State.notify_flags_congr {s v : State} (hmask : v.mask = s.mask) (hnotices : v.notices = s.notices)
    (hoverflow : v.overflow = s.overflow) (hmark : v.discardMark = s.discardMark) (n : Notice) :
    (v.notify n).notices = (s.notify n).notices ∧ (v.notify n).overflow = (s.notify n).overflow ∧
       (v.notify n).discardMark = (s.notify n).discardMark := by
  unfold State.notify
  rw [hmask, hnotices]
  split_ifs <;> simp [hnotices, hoverflow, hmark]

/-- Settles O26: the read leaves its queue, and a DRAIN entry left with nobody exits. -/
theorem withdrawQueuedRead : Obligations.WithdrawQueuedRead := by
  intro m t e p s hlive hroom hp ht hr
  have hcancel : s.quiet.cancel m p = (s.quiet.unqueued m t e).drainExit e := by
    rw [State.cancel_queue _ m hr, ht]
    rfl
  have hself := s.quiet.unqueued_entry m t e e
  rw [if_pos rfl] at hself
  refine ⟨fun hstays => ?_, fun hdrain hholder hempty => ?_⟩
  · have hnot : (s.quiet.unqueued m t e).drainExit e = s.quiet.unqueued m t e := by
      unfold State.drainExit
      rw [hself]
      exact if_neg fun ⟨h1, h2, h3⟩ => hstays.elim (· h1) fun h => h.elim (· h2) (· h3)
    refine ⟨_, exec_withdraw_named hlive hp ht hroom, ?_, fun i => ?_, fun i => ?_⟩ <;> rw [hcancel, hnot]
    · apply State.ext
      case out => simp [moved, Out.none, State.unqueued, State.unpark]
      all_goals simp [State.unqueued, State.unpark]
    · rw [State.took_ctx, State.unqueued_ctx, State.quiet_ctx]
    · rw [State.took_entry, State.unqueued_entry, State.quiet_entry]
  · have hexit : (s.quiet.unqueued m t e).drainExit e = ((s.quiet.unqueued m t e).updEntry e fun x =>
        { x with state := .watch }).notify (.granuleCool e (s.entry e).granule) := by
      unfold State.drainExit
      rw [hself]
      exact if_pos ⟨hdrain, hholder, hempty⟩
    obtain ⟨hnotices, hoverflow, hmark⟩ := State.notify_flags_congr (s := s)
      (v := (s.quiet.unqueued m t e).updEntry e fun x => { x with state := .watch }) (by simp [State.unqueued, State.unpark])
      (by simp [State.unqueued, State.unpark]) (by simp [State.unqueued, State.unpark])
      (by simp [State.unqueued, State.unpark]) (.granuleCool e (s.entry e).granule)
    refine ⟨_, exec_withdraw_named hlive hp ht hroom, ?_, fun i => ?_, fun i => ?_⟩ <;> rw [hcancel, hexit]
    · apply State.ext
      case notices => exact hnotices
      case overflow => exact hoverflow
      case discardMark => exact hmark
      case out => simp [moved, Out.none, State.unqueued, State.unpark]
      all_goals simp [State.unqueued, State.unpark]
    · rw [State.took_ctx, State.notify_ctx, State.updEntry_ctx, State.unqueued_ctx, State.quiet_ctx]
    · rw [State.took_entry, State.notify_entry, State.entry_updEntry, State.unqueued_entry, State.quiet_entry]
      split_ifs with hi
      · rw [hi, hempty]
      · rfl

/-! The reply queue and far responses (O31, O32). -/

/-- Settles O32: the reply at the head is presented, and sent with all-zero data. -/
theorem replyQueueSendsOldest : Obligations.ReplyQueueSendsOldest := by
  intro s hlive
  have hreset := (s.live_iff.mp hlive).2
  refine ⟨fun r rest hr => ⟨?_, fun offered => ?_⟩, fun hr => ?_⟩
  · show execReplyQueueSend s = _
    unfold execReplyQueueSend
    dsimp only
    rw [if_pos (show s.quiet.live = true from hlive), show s.quiet.replies = r :: rest from hr]
    rfl
  · simp only [State.nearReplyPresented, hreset, hr]
    rfl
  · simp [State.nearReplyPresented, hreset, hr]

section

variable {s : State} {m : Master} {t : Tag} {st : FarStatus} {d : Data}

/-- A far response waits behind a queued reply, and while the near reply channel is not ready (R117). -/
theorem exec_farResponse_waits (hlive : s.live = true) {ready : Bool} (h : s.replies ≠ [] ∨ ready = false) :
    exec (.farResponse m t st d ready) s = .next s.quiet := by
  have hready : s.quiet.farResponseReady ready = false := Bool.eq_false_iff.mpr fun hr => by
    obtain hreset | ⟨hempty, hr⟩ := (s.farResponseReady_iff ready).mp hr
    · rw [(s.live_iff.mp hlive).2] at hreset; cases hreset
    · simp [hempty, hr] at h
  show execFarResponse m t st d ready s = _
  unfold execFarResponse
  dsimp only
  rw [hready, Bool.and_false, if_neg (by simp)]

/-- A far response that can be replied at once is matched and replied (R58, R117). -/
theorem exec_farResponse_taken (hlive : s.live = true) (hempty : s.replies = []) :
    exec (.farResponse m t st d true) s =
      .next (s.quiet.respond { master := m, tag := t, status := st, data := d }).took := by
  obtain ⟨hrun, hreset⟩ := s.live_iff.mp hlive
  have hready : s.farResponseReady true = true := (s.farResponseReady_iff true).mpr (.inr ⟨hempty, rfl⟩)
  show execFarResponse m t st d true s = _
  unfold execFarResponse
  dsimp only
  rw [if_pos (show (s.quiet.refclkRunning && s.quiet.farResponseReady true) = true from Bool.and_eq_true_iff.mpr ⟨hrun, hready⟩),
    if_neg (by simp [hreset])]

theorem State.flightOf_eq_none (h : ∀ f ∈ s.flight, ¬ (f.master = m ∧ f.tag = t)) : s.flightOf m t = none := by
  simpa [State.flightOf] using h

/-- A far response without an entry is replied by its NOMON mark, which is used up (R58). -/
theorem State.respond_untracked (h : s.flightOf m t = none) : s.respond { master := m, tag := t, status := st, data := d } =
    if s.nomonMark m t then (s.setNomon m t false).replied (untrackedReply m t .nomon st d)
    else s.replied (untrackedReply m t .okay st d) := by
  simp only [State.respond, State.settleResponse, State.replyTo, h]
  split_ifs <;> rfl

end

/-- Settles O31: no entry matches, so the reply is chosen by the NOMON mark, which is used up. -/
theorem untrackedFarResponse : Obligations.UntrackedFarResponse := by
  intro m t d s hlive
  have hreset := (s.live_iff.mp hlive).2
  refine ⟨fun st h => exec_farResponse_waits hlive (.inl h), fun st => exec_farResponse_waits hlive (.inr rfl),
    fun st h => ⟨_, exec_farResponse_taken hlive h, rfl, ?_⟩, fun ready => ?_, fun hempty hnone => ?_⟩
  · simp only [State.nearReplyPresented, hreset, h]
    rfl
  · rw [s.farResponseReady_iff, hreset]
    simp
  · have hmatch : s.quiet.flightOf m t = none := State.flightOf_eq_none hnone
    refine ⟨fun hmark => ?_, fun hmark st => ⟨_, exec_farResponse_taken hlive hempty, ?_, fun i k => ?_⟩⟩
    · have hmark' : ¬ s.quiet.nomonMark m t = true := Bool.eq_false_iff.mp hmark
      refine ⟨?_, ?_⟩ <;>
      · rw [exec_farResponse_taken hlive hempty, State.respond_untracked hmatch, if_neg hmark']
        rfl
    · rw [State.respond_untracked hmatch, if_pos (show s.quiet.nomonMark m t = true from hmark)]
      cases st <;> rfl
    · rw [State.respond_untracked hmatch, if_pos (show s.quiet.nomonMark m t = true from hmark)]
      refine (s.quiet.nomonMark_setNomon m i t k false).trans (if_congr ?_ rfl rfl)
      rw [eq_comm (a := m), eq_comm (a := t)]

/-! The arbiter (O33, O34). -/

theorem Released.toFar_eq (r : Released) : r.toFar = farRead r.master r.tag r.address r.size := rfl

section

variable {s : State}

theorem State.mayForward_iff (r : Released) : s.mayForward r = true ↔ mayGo s r := by
  simp [State.mayForward, mayGo, s.flightRoom_iff]

/-- The read the arbiter takes is the one chosen (R124). -/
theorem State.arbiter_of_chosen {before after : List Released} {r : Released} (hlist : s.released = before ++ r :: after)
    (hchosen : chosen s before r after) : s.arbiter = some r := by
  obtain ⟨hgo, hbefore, hafter⟩ := hchosen
  rw [State.arbiter_eq, hlist, List.filter_append, List.filter_cons_of_pos ((State.mayForward_iff r).mpr hgo)]
  refine foldl_leastStep_eq (fun q hq => ?_) fun q hq => ?_
  · obtain ⟨hmem, hq⟩ := List.mem_filter.mp hq
    exact hbefore q hmem ((State.mayForward_iff q).mp hq)
  · obtain ⟨hmem, hq⟩ := List.mem_filter.mp hq
    exact hafter q hmem ((State.mayForward_iff q).mp hq)

theorem State.arbiter_eq_none (h : ∀ r ∈ s.released, ¬ mayGo s r) : s.arbiter = none := by
  rw [State.arbiter_eq, foldl_leastStep_none, List.filter_eq_nil_iff]
  exact fun r hr hgo => h r hr ((State.mayForward_iff r).mp hgo)

/-- The arbiter's choice is forwarded (R124). -/
theorem exec_releasedReadForwarding_some (hlive : s.live = true) {r : Released} (h : s.arbiter = some r) :
    exec .releasedReadForwarding s = .next (s.quiet.forwardRead r).took := by
  show execReleasedReadForwarding s = _
  unfold execReleasedReadForwarding
  dsimp only
  rw [if_pos (show s.quiet.live = true from hlive), show s.quiet.arbiter = some r from h]

theorem exec_releasedReadForwarding_none (hlive : s.live = true) (h : s.arbiter = none) :
    exec .releasedReadForwarding s = .next s.quiet := by
  show execReleasedReadForwarding s = _
  unfold execReleasedReadForwarding
  dsimp only
  rw [if_pos (show s.quiet.live = true from hlive), show s.quiet.arbiter = none from h]

theorem State.forwardRead_released (s : State) (r : Released) : (s.forwardRead r).released = s.released.erase r := by
  unfold State.forwardRead
  dsimp only
  split <;> simp

theorem State.forwardRead_out (s : State) (r : Released) :
    (s.forwardRead r).out = { s.out with farRequest := some r.toFar } := by
  unfold State.forwardRead
  dsimp only
  split <;> simp

/-- A chosen read is the first of its kind, so that its removal takes it from where it stands. -/
theorem released_erase_of_chosen {before after : List Released} {r : Released} (hlist : s.released = before ++ r :: after)
    (hchosen : chosen s before r after) : s.released.erase r = before ++ after := by
  have hnot : r ∉ before := fun h => absurd (hchosen.2.1 r h hchosen.1) (lt_irrefl _)
  rw [hlist, List.erase_append_right _ hnot, List.erase_cons_head]

end

/-- Settles O34: the least master among the reads that may go, and of its reads the first. -/
theorem arbiterTakesLowestMaster : Obligations.ArbiterTakesLowestMaster := by
  intro s hlive
  have hreset := (s.live_iff.mp hlive).2
  refine ⟨fun hnone => ⟨?_, fun hwait head => ?_⟩, fun before r after hlist hchosen => ?_⟩
  · exact exec_releasedReadForwarding_none hlive (State.arbiter_eq_none hnone)
  · rw [State.farRequestPresented_released hreset hwait, State.arbiter_eq_none hnone]
    rfl
  · have harb := State.arbiter_of_chosen hlist hchosen
    have hwait : s.released ≠ [] := by rw [hlist]; simp
    refine ⟨_, exec_releasedReadForwarding_some hlive harb, ?_, ?_, fun head => ?_⟩
    · rw [State.took_released, State.forwardRead_released, State.quiet_released, released_erase_of_chosen hlist hchosen]
    · rw [State.took_out, State.forwardRead_out]
      rfl
    · rw [State.farRequestPresented_released hreset hwait, harb]
      rfl

/-- Settles O33: the three arming modes, each with its own forwarding. -/
theorem releasedReadForwardedByMode : Obligations.ReleasedReadForwardedByMode := by
  intro before after r s hlive hlist hchosen
  have harb := State.arbiter_of_chosen hlist hchosen
  have herase := released_erase_of_chosen hlist hchosen
  have hexec : exec .releasedReadForwarding s = .next (s.quiet.forwardRead r).took := exec_releasedReadForwarding_some hlive harb
  refine ⟨fun h hmode => ⟨_, hexec, ?_, fun i => ?_⟩, fun hmode => ?_, fun hmode => ⟨_, hexec, ?_, fun i k => ?_⟩⟩
  · rw [State.forwardRead_arm _ hmode]
    apply State.ext
    case flight =>
      rw [State.took_flight, State.forwarded_flight, State.arm_flight]
      rfl
    case released => simp [State.dropReleased, herase]
    case out => simp [moved, Out.none, State.dropReleased, Released.toFar_eq]
    all_goals simp [State.dropReleased]
  · rw [State.forwardRead_arm _ hmode, State.took_ctx, State.forwarded_ctx, State.arm_ctx]
    rfl
  · rw [hexec, State.forwardRead_disarmed _ hmode]
    have hrange : s.quiet.rangeOf r.granule = oneGranule s r.granule := rfl
    rw [hrange]
    refine congrArg Host.Outcome.next ?_
    apply State.ext
    case released => simp [State.dropReleased, herase]
    case out => simp [moved, Out.none, State.dropReleased, Released.toFar_eq]
    all_goals simp [State.dropReleased]
  · rw [State.forwardRead_plain _ hmode]
    apply State.ext
    case released => simp [State.dropReleased, herase]
    case out => simp [moved, Out.none, State.dropReleased, Released.toFar_eq]
    all_goals simp [State.dropReleased]
  · rw [State.forwardRead_plain _ hmode]
    refine ((s.quiet.dropReleased r).nomonMark_setNomon r.master i r.tag k true).trans (if_congr ?_ rfl rfl)
    rw [eq_comm (a := r.master), eq_comm (a := r.tag)]

end Sys2Proof.Machine
end

section
/-! SUPPORT. Far responses that remove an entry of the flight list: linked reads (O27, O28) and writes (O29, O30). -/

namespace Sys2Proof.Machine

open Sys2Proof.Safety Sys2Proof.Claim

/-! The entry a far response removes. -/

section

variable {s : State} {m : Master} {t : Tag} {st : FarStatus} {d : Data} {before after : List Flight} {f : Flight}

theorem State.flightOf_of_first (hlist : s.flight = before ++ f :: after) (hfirst : firstOf m t before f) :
    s.flightOf m t = some f := by
  obtain ⟨hm, ht, hbefore⟩ := hfirst
  rw [State.flightOf, hlist, List.find?_append, List.find?_eq_none.mpr fun g hg => by simpa using hbefore g hg]
  simp [hm, ht]

theorem flight_erase_of_first (hlist : s.flight = before ++ f :: after) (hfirst : firstOf m t before f) :
    s.flight.erase f = before ++ after := by
  have hnot : f ∉ before := fun h => hfirst.2.2 f h ⟨hfirst.1, hfirst.2.1⟩
  rw [hlist, List.erase_append_right _ hnot, List.erase_cons_head]

/-- MEMORY_ERROR is handed over for the entry of a far ERROR (R59). -/
def State.noted (s : State) (f : Flight) (st : FarStatus) : State :=
  if st = .error then s.notify (.memoryError f.master f.tag f.address) else s

/-- The state in which the effects of a removal follow: the entry is gone, and its notice is handed over. -/
def State.removed (s : State) (f : Flight) (st : FarStatus) (l : List Flight) : State := { s.noted f st with flight := l }

theorem State.notify_withFlight (s : State) (n : Notice) (l : List Flight) :
    State.notify { s with flight := l } n = { s.notify n with flight := l } := by
  unfold State.notify
  dsimp only
  split_ifs <;> rfl

theorem State.noted_dropFlight (s : State) (f : Flight) (st : FarStatus) :
    (s.dropFlight f).noted f st = s.removed f st (s.flight.erase f) := by
  unfold State.noted State.removed State.noted State.dropFlight
  split_ifs
  · exact s.notify_withFlight _ _
  · rfl

theorem State.remove_lread {armed : Bool} {h : Option EntryIx} (hk : f.kind = .lread armed h) :
    s.remove f st = if st = .error then (s.removed f st (s.flight.erase f)).readFailed f.master armed h
      else s.removed f st (s.flight.erase f) := by
  rw [State.remove_eq, hk, ← State.noted_dropFlight]
  rfl

theorem State.remove_write (hk : f.isWrite = true) :
    s.remove f st = (s.removed f st (s.flight.erase f)).writeRemoval f.range := by
  rw [State.remove_eq, ← State.noted_dropFlight]
  unfold Flight.isWrite at hk
  cases hkind : f.kind with
  | lread armed h => simp [hkind] at hk
  | write => rfl
  | cwrite => rfl

theorem State.removed_withOut (s : State) (f : Flight) (st : FarStatus) (l : List Flight) (o : Out) :
    (s.withOut o).removed f st l = (s.removed f st l).withOut o := by
  unfold State.removed State.noted
  split_ifs
  · rw [State.notify_withOut]
    rfl
  · rfl

/-- A far response that meets an entry removes it and is replied in the same event (R58, R59). -/
theorem exec_farResponse_matched (hlive : s.live = true) (hempty : s.replies = []) (hlist : s.flight = before ++ f :: after)
    (hfirst : firstOf m t before f) :
    exec (.farResponse m t st d true) s = .next ((s.quiet.remove f st).replied (f.reply st d)).took := by
  have hmatch : s.quiet.flightOf m t = some f := State.flightOf_of_first hlist hfirst
  rw [exec_farResponse_taken hlive hempty]
  simp only [State.respond, State.settleResponse, State.replyTo, hmatch]

theorem State.replied_took_withOut (v : State) (q : NearReply) :
    ((v.withOut Out.none).replied q).took = { v with out := moved none (some q) } := rfl

/-- OK for a linked read: it is replied EXOKAY with its data (R32). -/
theorem exec_farResponse_read_ok {armed : Bool} {h : Option EntryIx} (hlive : s.live = true) (hempty : s.replies = [])
    (hlist : s.flight = before ++ f :: after) (hfirst : firstOf m t before f) (hk : f.kind = .lread armed h) :
    exec (.farResponse m t .ok d true) s = .next { s with
      flight := before ++ after
      out := moved none (some { master := m, tag := t, status := .exokay, data := d }) } := by
  have hreply : f.reply .ok d = { master := m, tag := t, status := .exokay, data := d } := by
    simp [Flight.reply, hk, hfirst.1, hfirst.2.1]
  rw [exec_farResponse_matched hlive hempty hlist hfirst, State.remove_lread hk, if_neg (by simp), hreply,
    State.quiet_eq, State.removed_withOut, State.replied_took_withOut,
    show (s.withOut Out.none).flight = s.flight from rfl, flight_erase_of_first hlist hfirst]
  rfl

/-- ERROR for a linked read: it is replied BUSERR, and its reservation and holdership may end (R32, R101). -/
theorem exec_farResponse_read_error {armed : Bool} {h : Option EntryIx} (hlive : s.live = true) (hempty : s.replies = [])
    (hlist : s.flight = before ++ f :: after) (hfirst : firstOf m t before f) (hk : f.kind = .lread armed h) :
    exec (.farResponse m t .error d true) s = .next
      (((((s.removed f .error (before ++ after)).withOut Out.none).readFailed m armed h).replied (zeroReply m t .buserr)).took) := by
  have hreply : f.reply .error d = zeroReply m t .buserr := by
    simp [Flight.reply, hfirst.1, hfirst.2.1, zeroReply]
  rw [exec_farResponse_matched hlive hempty hlist hfirst, State.remove_lread hk, if_pos rfl, hreply, hfirst.1,
    State.quiet_eq, State.removed_withOut, show (s.withOut Out.none).flight = s.flight from rfl,
    flight_erase_of_first hlist hfirst]

/-- The state of a failed read before any release: its reservation is cleared when it was armed (R32). -/
theorem State.readFailed_withOut_none (v : State) (armed : Bool) (o : Out) :
    (v.withOut o).readFailed m armed none = (if armed then unreserved m v else v).withOut o := by
  cases armed
  · rfl
  · show (v.withOut o).clearReservation m = (unreserved m v).withOut o
    rw [← unreserved_eq, unreserved_withOut]

theorem State.readFailed_withOut_some (v : State) (armed : Bool) (e : EntryIx) (o : Out) :
    (v.withOut o).readFailed m armed (some e) =
      if (v.entry e).holder = some m then ((if armed then unreserved m v else v).withOut o).releaseEntry e
      else (if armed then unreserved m v else v).withOut o := by
  have hentry : ((v.withOut o).readFailed m armed none).entry e = v.entry e := by
    rw [State.readFailed_withOut_none]
    split_ifs <;> simp [unreserved_eq]
  rw [← State.readFailed_withOut_none, ← hentry]
  rfl

end

theorem hazardMatches_notify {s : State} (h : HazardMatches s) (n : Notice) : HazardMatches (s.notify n) := by
  refine ⟨by simpa using h.1, fun i => ?_⟩
  rw [State.notify_hazard, State.notify_ctx]
  exact h.2 i

/-- Settles O27: without a holder-entry nothing is released, and the armed mark decides on the reservation. -/
theorem farResponseToLinkedRead : Obligations.FarResponseToLinkedRead := by
  intro m t d before after f armed s hlive hempty hlist hfirst hk
  have hremoved : s.removed f .error (before ++ after) =
      { s.notify (.memoryError m t f.address) with flight := before ++ after } := by
    rw [State.removed, State.noted, if_pos rfl, hfirst.1, hfirst.2.1]
  have herror := exec_farResponse_read_error (d := d) hlive hempty hlist hfirst hk
  rw [hremoved, State.readFailed_withOut_none, State.replied_took_withOut] at herror
  refine ⟨exec_farResponse_read_ok hlive hempty hlist hfirst hk, fun harmed => ?_, fun harmed => ?_⟩
  · rw [herror, if_neg (by simp [harmed])]
  · rw [if_pos harmed, unreserved_eq] at herror
    refine ⟨_, herror, ?_, fun i => ?_⟩
    · apply State.ext
      case flight => simp [State.clearReservation_flight_eq]
      case released => simp [State.clearReservation_released_eq]
      all_goals simp
    · simp

/-- Settles O28: the release follows exactly where the master still holds the entry named. -/
theorem farErrorReleasesHolder : Obligations.FarErrorReleasesHolder := by
  intro m t d before after f armed e s hz hlive hempty hlist hfirst hk removed s1
  have hremoved : s.removed f .error (before ++ after) = removed := by
    rw [State.removed, State.noted, if_pos rfl, hfirst.1, hfirst.2.1]
  have hs1 : s1 = if armed then unreserved m removed else removed := rfl
  have herror := exec_farResponse_read_error (d := d) hlive hempty hlist hfirst hk
  rw [hremoved, State.readFailed_withOut_some, ← hs1] at herror
  have hentry : removed.entry e = s.entry e := s.notify_entry _ e
  have hentry1 : s1.entry e = s.entry e := by
    rw [hs1, unreserved_eq, ← hentry]
    split_ifs
    · exact State.clearReservation_entry removed m e
    · rfl
  have hz0 : HazardMatches removed := hazardMatches_notify hz _
  have hz1 : HazardMatches s1 := by
    rw [hs1, unreserved_eq]
    split_ifs
    · exact hazardMatches_clearReservation hz0 m
    · exact hz0
  clear_value s1 removed
  refine ⟨exec_farResponse_read_ok hlive hempty hlist hfirst hk, fun hh hserv => ?_, fun hh => ?_⟩
  · rw [herror, if_pos (hentry ▸ hh), State.releaseEntry_withOut _ hz1 (hentry1 ▸ hh) (hentry1 ▸ hserv),
      State.replied_took_withOut]
  · rw [herror, if_neg (hentry ▸ hh), State.replied_took_withOut]

end Sys2Proof.Machine
end

section
/-! SUPPORT. Write removals: the hazard reads they release (O29) and the queues they grant (O30). -/

namespace Sys2Proof.Machine

open Sys2Proof.Safety Sys2Proof.Claim

/-! Grants at several entries. -/

/-- The granule of the entry is one that a removed write reached, and a waiter at its head would be granted (R60, R94). -/
def State.grants (s : State) (r : GranuleRange) (e : EntryIx) : Bool :=
  s.inRange r (s.entry e).granule && (s.entry e).serving && (s.entry e).holder.isNone && !s.covered (s.entry e).granule

/-- What a removal does at one entry (R60). -/
def State.grantAt (r : GranuleRange) (s : State) (e : EntryIx) : State :=
  if s.inRange r (s.entry e).granule then s.attemptGrant e else s

/-- The read at the head of an entry's queue, as a grant sends it to the arbiter (R95). -/
def State.headRead (s : State) (e : EntryIx) : Option Released :=
  (s.entry e).queue.head?.bind fun k => (s.ctx k).parked.map fun p => p.release k (.arm (some e))

/-- The entry of a list whose grant goes to a master. -/
def State.grantsTo (s : State) (r : GranuleRange) (l : List EntryIx) (i : Master) : Option EntryIx :=
  l.find? fun e => s.grants r e && decide ((s.entry e).queue.head? = some i)

/-- What a context becomes when an entry is granted to its master (R95). -/
def Context.granted (c : Context) (e : EntryIx) : Context := { c with parked := none, holdership := some e }

/-- What an entry becomes at a removal (R95). -/
def State.grantedEntry (s : State) (r : GranuleRange) (e : EntryIx) : Entry :=
  match (s.entry e).queue with
  | k :: rest =>
    if s.grants r e then
      { s.entry e with
        holder := some k, tenure := (s.window (s.entry e).granule.window).tenure.toNat, queue := rest }
    else s.entry e
  | [] => s.entry e

section

variable (s : State) (r : GranuleRange) (e : EntryIx)

theorem State.grantsIn_eq : s.grantsIn r = entryIxs.foldl (State.grantAt r) s := rfl

/-- Nothing happens at an entry without waiters. -/
theorem State.grantAt_nil (hq : (s.entry e).queue = []) : s.grantAt r e = s := by
  simp [State.grantAt, State.attemptGrant, hq]

/-- The head of a queue is granted, or nothing happens. -/
theorem State.grantAt_cons {k : Master} {rest : List Master} (hq : (s.entry e).queue = k :: rest) :
    s.grantAt r e = if s.grants r e then grantedTo k rest e s else s := by
  have hgrant : s.grants r e = (s.inRange r (s.entry e).granule && s.grantable e) := by
    simp [State.grants, State.grantable, hq, Bool.and_assoc]
  rw [hgrant]
  cases hin : s.inRange r (s.entry e).granule <;> cases hg : s.grantable e <;>
    simp [State.grantAt, State.attemptGrant, hq, hin, hg, State.grant_eq_grantedTo hq]

theorem State.grantAt_frame : (s.grantAt r e).windows = s.windows ∧ (s.grantAt r e).flight = s.flight := by
  unfold State.grantAt
  split_ifs <;> simp

theorem State.grantAt_entry (i : EntryIx) :
    (s.grantAt r e).entry i = if i = e then s.grantedEntry r e else s.entry i := by
  unfold State.grantedEntry
  cases hq : (s.entry e).queue with
  | nil =>
    rw [State.grantAt_nil s r e hq]
    by_cases h : i = e
    · rw [if_pos h, h]
    · rw [if_neg h]
  | cons k rest =>
    rw [State.grantAt_cons s r e hq]
    split_ifs with hg hi hi
    · rw [grantedTo_entry, if_pos hi, hi]
    · rw [grantedTo_entry, if_neg hi]
    · rw [hi]
    · rfl

theorem State.grantAt_ctx (i : Master) : (s.grantAt r e).ctx i =
    if s.grants r e = true ∧ (s.entry e).queue.head? = some i then (s.ctx i).granted e else s.ctx i := by
  cases hq : (s.entry e).queue with
  | nil => simp [State.grantAt_nil s r e hq]
  | cons k rest =>
    rw [State.grantAt_cons s r e hq]
    by_cases hg : s.grants r e = true
    · rw [if_pos hg, grantedTo_ctx]
      simp [hg, Context.granted, eq_comm]
    · simp [hg]

theorem State.grantAt_released : (s.grantAt r e).released =
    s.released ++ if s.grants r e then (s.headRead e).toList else [] := by
  unfold State.headRead
  cases hq : (s.entry e).queue with
  | nil => simp [State.grantAt_nil s r e hq]
  | cons k rest =>
    rw [State.grantAt_cons s r e hq]
    split_ifs
    · simp [grantedTo]
    · simp

/-- A grant at one entry leaves the choice at every other as it was. -/
theorem State.grants_grantAt {i : EntryIx} (h : i ≠ e) : (s.grantAt r e).grants r i = s.grants r i := by
  obtain ⟨hw, hf⟩ := s.grantAt_frame r e
  simp only [State.grants, State.grantAt_entry, if_neg h, State.inRange_congr hw, State.covered_congr hw hf]

end

theorem find?_congr_mem {α : Type} {p q : α → Bool} {l : List α} (h : ∀ x ∈ l, p x = q x) : l.find? p = l.find? q := by
  rw [← List.head?_filter, ← List.head?_filter, List.filter_congr h]

/-- The grants of a list of entries, whose queues have different heads: each at its place, with its master, in order. -/
theorem State.grants_of_foldl (r : GranuleRange) (l : List EntryIx) (s : State) (hnodup : l.Nodup)
    (hheads : ∀ e ∈ l, ∀ i ∈ l, ∀ k, (s.entry e).queue.head? = some k → (s.entry i).queue.head? = some k → e = i) :
    (l.foldl (State.grantAt r) s).released = s.released ++ (l.filter (s.grants r)).filterMap s.headRead ∧
      (∀ i, (l.foldl (State.grantAt r) s).ctx i = (s.grantsTo r l i).elim (s.ctx i) (s.ctx i).granted) ∧
      ∀ i, (l.foldl (State.grantAt r) s).entry i = if i ∈ l then s.grantedEntry r i else s.entry i := by
  induction l generalizing s with
  | nil => simp [State.grantsTo]
  | cons x l ih =>
    obtain ⟨hx, hnodup⟩ := List.nodup_cons.mp hnodup
    have hne : ∀ e ∈ l, e ≠ x := fun e he h => hx (h ▸ he)
    have hentry : ∀ e ∈ l, (s.grantAt r x).entry e = s.entry e := fun e he => by
      rw [State.grantAt_entry, if_neg (hne e he)]
    have hgrants : ∀ e ∈ l, (s.grantAt r x).grants r e = s.grants r e := fun e he => State.grants_grantAt s r x (hne e he)
    have hctx : ∀ e ∈ l, ∀ k, (s.entry e).queue.head? = some k → (s.grantAt r x).ctx k = s.ctx k := fun e he k hk => by
      rw [State.grantAt_ctx, if_neg]
      exact fun h => hne e he (hheads e (by simp [he]) x (by simp) k hk h.2)
    have hread : ∀ e ∈ l, (s.grantAt r x).headRead e = s.headRead e := fun e he => by
      unfold State.headRead
      rw [hentry e he]
      cases hq : (s.entry e).queue.head? with
      | none => rfl
      | some k => simp [hctx e he k hq]
    have hto : ∀ i, (s.grantAt r x).grantsTo r l i = s.grantsTo r l i := fun i => by
      unfold State.grantsTo
      exact find?_congr_mem fun e he => by rw [hgrants e he, hentry e he]
    have hself : ∀ e ∈ l, (s.grantAt r x).grantedEntry r e = s.grantedEntry r e := fun e he => by
      unfold State.grantedEntry
      rw [hentry e he, hgrants e he, State.window, State.window, (s.grantAt_frame r x).1]
    obtain ⟨hreleased, hcontexts, hentries⟩ := ih (s.grantAt r x) hnodup (fun e he i hi k => by
      rw [hentry e he, hentry i hi]
      exact hheads e (by simp [he]) i (by simp [hi]) k)
    rw [List.foldl_cons]
    refine ⟨?_, fun i => ?_, fun i => ?_⟩
    · rw [hreleased, State.grantAt_released, List.filter_congr hgrants, List.append_assoc, List.filter_cons]
      rw [List.filterMap_congr fun e he => hread e (List.mem_filter.mp he).1]
      cases hg : s.grants r x with
      | false => simp
      | true => cases hh : s.headRead x <;> simp [hh]
    · rw [hcontexts, hto, State.grantAt_ctx, State.grantsTo, State.grantsTo, List.find?_cons]
      by_cases hi : s.grants r x = true ∧ (s.entry x).queue.head? = some i
      · have hnone : l.find? (fun e => s.grants r e && decide ((s.entry e).queue.head? = some i)) = none :=
          List.find?_eq_none.mpr fun e he h => by
            rw [Bool.and_eq_true, decide_eq_true_eq] at h
            exact hne e he (hheads e (by simp [he]) x (by simp) i h.2 hi.2)
        rw [if_pos hi, hnone, hi.1, hi.2]
        simp
      · have hfalse : (s.grants r x && decide ((s.entry x).queue.head? = some i)) = false := by
          simpa using hi
        rw [if_neg hi, hfalse]
    · rw [hentries, State.grantAt_entry]
      by_cases hi : i = x
      · simp [hi, hx]
      · by_cases hl : i ∈ l
        · simp [hi, hl, hself i hl]
        · simp [hi, hl]

/-! Write removals. -/

section

variable (s : State) (f : Flight) (st : FarStatus) (l : List Flight)

theorem State.noted_keeps : (s.noted f st).windows = s.windows ∧ (s.noted f st).contexts = s.contexts ∧
    (s.noted f st).contention = s.contention ∧ (s.noted f st).hazard = s.hazard ∧ (s.noted f st).released = s.released ∧
    (s.noted f st).flight = s.flight := by
  unfold State.noted
  split_ifs <;> simp

@[simp] theorem State.removed_windows : (s.removed f st l).windows = s.windows := (s.noted_keeps f st).1
@[simp] theorem State.removed_flight : (s.removed f st l).flight = l := rfl
@[simp] theorem State.removed_hazard : (s.removed f st l).hazard = s.hazard := (s.noted_keeps f st).2.2.2.1
@[simp] theorem State.removed_released : (s.removed f st l).released = s.released := (s.noted_keeps f st).2.2.2.2.1
@[simp] theorem State.removed_ctx (i : Master) : (s.removed f st l).ctx i = s.ctx i :=
  State.ctx_congr (s.noted_keeps f st).2.1 i
@[simp] theorem State.removed_entry (i : EntryIx) : (s.removed f st l).entry i = s.entry i :=
  State.entry_congr (s.noted_keeps f st).2.2.1 i

end

section

variable {s : State} {m : Master} {t : Tag} {st : FarStatus} {d : Data} {before after : List Flight} {f : Flight}

/-- The removal of a write is replied by its kind, with all-zero data (R59). -/
theorem exec_farResponse_write (hlive : s.live = true) (hempty : s.replies = []) (hlist : s.flight = before ++ f :: after)
    (hfirst : firstOf m t before f) (hk : f.isWrite = true) :
    exec (.farResponse m t st d true) s = .next
      (((((s.removed f st (before ++ after)).withOut Out.none).writeRemoval f.range).replied (zeroReply m t
          (if st = .error then .buserr else if f.kind = .write then .okay else .exokay))).took) := by
  have hreply : f.reply st d = zeroReply m t (if st = .error then .buserr else if f.kind = .write then .okay else .exokay) := by
    unfold Flight.isWrite at hk
    cases st <;> cases hkind : f.kind <;> simp_all [Flight.reply, zeroReply, hfirst.1, hfirst.2.1]
  rw [exec_farResponse_matched hlive hempty hlist hfirst, State.remove_write hk, hreply,
    State.quiet_eq, State.removed_withOut, show (s.withOut Out.none).flight = s.flight from rfl,
    flight_erase_of_first hlist hfirst]

end

/-- Nothing is granted where no entry may grant. -/
theorem State.grantsIn_of_none {s : State} {r : GranuleRange} (h : ∀ e, ¬ mayGrant s r e) : s.grantsIn r = s := by
  have hat : ∀ e, s.grantAt r e = s := fun e => by
    cases hq : (s.entry e).queue with
    | nil => exact s.grantAt_nil r e hq
    | cons k rest =>
      rw [s.grantAt_cons r e hq, if_neg]
      intro hg
      simp only [State.grants, Bool.and_eq_true, Option.isNone_iff_eq_none] at hg
      obtain ⟨⟨⟨hin, hserv⟩, hholder⟩, -⟩ := hg
      exact h e ⟨hin, hserv, hholder, by simp [hq]⟩
  rw [State.grantsIn_eq]
  induction entryIxs with
  | nil => rfl
  | cons e l ih => rw [List.foldl_cons, hat, ih]

section

variable (s : State) (f : Flight) (st : FarStatus) (l : List Flight)

theorem State.covered_removed (g : Granule) :
    (s.removed f st l).covered g = State.covered { s with flight := l } g :=
  State.covered_congr (t := { s with flight := l }) (State.removed_windows s f st l) rfl g

/-- The hazard reads that a removal releases, read in the state before it. -/
theorem State.uncovered_removed : (s.removed f st l).uncovered =
    fun i => (s.ctx i).parked.any fun p => !State.covered { s with flight := l } p.granule := by
  funext i
  simp only [State.uncovered, State.removed_ctx, State.covered_removed]

theorem State.heldEntry_removed (i : Master) (g : Granule) : (s.removed f st l).heldEntry i g = s.heldEntry i g := by
  simp only [State.heldEntry, State.entryFor, State.removed_entry]

end

/-- Settles O29: with no entry to grant, the removal is the hazard list's test. -/
theorem writeRemovalReleasesHazardReads : Obligations.WriteRemovalReleasesHazardReads := by
  intro m t st d before after f s hlive hempty hlist hfirst hk hnone left freed
  have hexec := exec_farResponse_write (st := st) (d := d) hlive hempty hlist hfirst hk
  have hnoted : (if st = .error then s.notify (.memoryError m t f.address) else s) = s.noted f st := by
    rw [State.noted, hfirst.1, hfirst.2.1]
  have hfreed : ((s.removed f st (before ++ after)).withOut Out.none).uncovered = freed := s.uncovered_removed f st _
  have hheld : ∀ i g, ((s.removed f st (before ++ after)).withOut Out.none).heldEntry i g = s.heldEntry i g :=
    s.heldEntry_removed f st (before ++ after)
  have hgrants : ∀ e, ¬ mayGrant ((s.removed f st (before ++ after)).withOut Out.none).releaseHazards f.range e := fun e h => by
    refine hnone e ?_
    unfold mayGrant at h
    rw [State.releaseHazards_entry, State.withOut_entry, State.removed_entry,
      State.inRange_congr (t := s) (by simp)] at h
    exact h
  rw [State.writeRemoval, State.grantsIn_of_none hgrants] at hexec
  rw [hnoted]
  refine ⟨_, hexec, ?_, fun i => ?_⟩
  · apply State.ext
    case hazard =>
      simp only [State.took_hazard, State.replied_hazard, State.releaseHazards_hazard, hfreed]
      simp
    case released =>
      simp only [State.took_released, State.replied_released, State.releaseHazards_released, hfreed, hheld]
      simp
    case out => simp [moved, Out.none]
    all_goals simp [State.removed]
  · simp only [State.took_ctx, State.replied_ctx, State.releaseHazards_ctx, hfreed]
    simp

/-- A master that waits at the head of a queue waits there alone, and not in the hazard list. -/
theorem head_waits_once {s : State} (hqueues : QueuesMatch s) (hz : HazardMatches s) {e : EntryIx} {k : Master}
    (hk : (s.entry e).queue.head? = some k) :
    k ∉ s.hazard ∧ ∀ i, (s.entry i).queue.head? = some k → e = i := by
  have hwaits : ∀ i, (s.entry i).queue.head? = some k → ∃ p, (s.ctx k).parked = some p ∧ p.reason = .queue i := fun i hi => by
    have := (hqueues i).2.1 k (List.mem_of_mem_head? hi)
    simp only [waitsIn, Option.any_eq_true, Bool.and_eq_true, decide_eq_true_eq] at this
    obtain ⟨p, hp, hr, -⟩ := this
    exact ⟨p, hp, hr⟩
  obtain ⟨p, hp, hr⟩ := hwaits e hk
  refine ⟨fun h => ?_, fun i hi => ?_⟩
  · have := (hz.2 k).mp h
    simp [hp, hr] at this
  · obtain ⟨q, hq, hr'⟩ := hwaits i hi
    rw [hp] at hq
    obtain rfl := Option.some.inj hq
    rw [hr] at hr'
    exact ParkReason.queue.inj hr'

/-- Settles O30: the hazard list's test, and then the grants of the entries reached, each to the head of its queue. -/
theorem writeRemovalGrants : Obligations.WriteRemovalGrants := by
  intro m t st d before after f s hqueues hz hlive hempty hlist hfirst hk left freed grants entryOf reads heads
  have hexec := exec_farResponse_write (st := st) (d := d) hlive hempty hlist hfirst hk
  have hnoted : (if st = .error then s.notify (.memoryError m t f.address) else s) = s.noted f st := by
    rw [State.noted, hfirst.1, hfirst.2.1]
  have hfreed : ((s.removed f st (before ++ after)).withOut Out.none).uncovered = freed := s.uncovered_removed f st _
  have hheld : ∀ i g, ((s.removed f st (before ++ after)).withOut Out.none).heldEntry i g = s.heldEntry i g :=
    s.heldEntry_removed f st (before ++ after)
  have hcov : ∀ g, ((s.removed f st (before ++ after)).withOut Out.none).releaseHazards.covered g = left.covered g :=
    fun g => (State.releaseHazards_covered _ g).trans (s.covered_removed f st _ g)
  have hctx : ∀ i, ((s.removed f st (before ++ after)).withOut Out.none).releaseHazards.ctx i =
      if i ∈ s.hazard ∧ freed i = true then { s.ctx i with parked := none } else s.ctx i := fun i => by
    rw [State.releaseHazards_ctx, hfreed, State.withOut_ctx, State.removed_ctx, State.withOut_hazard, State.removed_hazard]
  have hentry : ∀ i, ((s.removed f st (before ++ after)).withOut Out.none).releaseHazards.entry i = s.entry i := fun i => by
    simp
  have hwindows : ((s.removed f st (before ++ after)).withOut Out.none).releaseHazards.windows = s.windows := by simp
  have hreleased : ((s.removed f st (before ++ after)).withOut Out.none).releaseHazards.released = s.released ++ reads := by
    simp only [State.releaseHazards_released, hfreed, hheld]
    simp [reads]
  have hframe : ∀ q : NearReply, (((((s.removed f st (before ++ after)).withOut Out.none).writeRemoval f.range).replied q).took) =
      { s.noted f st with
        contexts := (((s.removed f st (before ++ after)).withOut Out.none).writeRemoval f.range).contexts
        contention := (((s.removed f st (before ++ after)).withOut Out.none).writeRemoval f.range).contention
        flight := before ++ after
        hazard := s.hazard.filter fun i => !freed i
        released := (((s.removed f st (before ++ after)).withOut Out.none).writeRemoval f.range).released
        out := moved none (some q) } := fun q => by
    apply State.ext
    case hazard =>
      simp only [State.took_hazard, State.replied_hazard, State.writeRemoval, State.grantsIn_hazard,
        State.releaseHazards_hazard, hfreed]
      simp
    case out => simp [moved, Out.none]
    all_goals simp [State.removed]
  have hfold : ((s.removed f st (before ++ after)).withOut Out.none).writeRemoval f.range = entryIxs.foldl
    (State.grantAt f.range) ((s.removed f st (before ++ after)).withOut Out.none).releaseHazards := rfl
  generalize ((s.removed f st (before ++ after)).withOut Out.none).releaseHazards = h at *
  rw [hframe] at hexec
  generalize ((s.removed f st (before ++ after)).withOut Out.none).writeRemoval f.range = u at *
  subst hfold
  have hgrants : h.grants f.range = grants := by
    funext e
    simp only [State.grants, hentry, hcov, State.inRange_congr hwindows]
    rfl
  have hhead : ∀ e k, (s.entry e).queue.head? = some k → h.ctx k = s.ctx k := fun e k hk => by
    rw [hctx, if_neg fun h => (head_waits_once hqueues hz hk).1 h.1]
  have hread : h.headRead = fun e => (s.entry e).queue.head?.bind fun k =>
      (s.ctx k).parked.map fun p => p.release k (.arm (some e)) := by
    funext e
    unfold State.headRead
    rw [hentry]
    cases hq : (s.entry e).queue.head? with
    | none => rfl
    | some k => simp [hhead e k hq]
  obtain ⟨hrel, hcontexts, hentries⟩ := State.grants_of_foldl f.range entryIxs h (List.nodup_finRange 32)
    fun e _ i _ k he hi => (head_waits_once hqueues hz (hentry e ▸ he)).2 i (hentry i ▸ hi)
  rw [hgrants, hread, hreleased] at hrel
  rw [hnoted]
  have hto : ∀ i, h.grantsTo f.range entryIxs i = entryOf i := fun i => by
    unfold State.grantsTo
    simp only [hgrants, hentry]
    rfl
  refine ⟨_, hexec, ⟨reads ++ heads, ?_, List.Perm.refl _, List.sublist_append_left _ _⟩, rfl, fun i => ?_, fun e => ?_⟩
  · exact hrel.trans (List.append_assoc ..)
  · rw [State.ctx_mk, State.contexts_getElem, hcontexts, hto]
    cases ho : entryOf i with
    | none => exact hctx i
    | some e =>
      have hmatch := List.find?_some ho
      rw [Bool.and_eq_true, decide_eq_true_eq] at hmatch
      exact congrArg (Context.granted · e) (hhead e i hmatch.2)
  · rw [State.entry_mk, State.contention_getElem, hentries, if_pos (show e ∈ entryIxs from List.mem_finRange e),
      State.grantedEntry, hentry, hgrants, State.window, hwindows]
    cases (s.entry e).queue <;> rfl

end Sys2Proof.Machine
end

section
/-! SUPPORT. The sample-period expiry: the filters and states of the entries (O35, O36). -/

namespace Sys2Proof.Machine

open Sys2Proof.Safety Sys2Proof.Claim

/-! The processing of one entry leaves the others. -/

section

variable (s : State) (e : EntryIx)

theorem State.attemptGrant_entry_of_ne {i : EntryIx} (h : i ≠ e) : (s.attemptGrant e).entry i = s.entry i := by
  obtain hs | ⟨k, -, -, -, -, hs⟩ := s.attemptGrant_cases e <;> rw [hs]
  rw [State.grant_entry, if_neg h]

/-- A grant moves the holder, the tenure and the queue alone. -/
theorem State.attemptGrant_entry_self : ∃ h n q,
    (s.attemptGrant e).entry e = { s.entry e with holder := h, tenure := n, queue := q } := by
  obtain hs | ⟨k, -, -, -, -, hs⟩ := s.attemptGrant_cases e <;> rw [hs]
  · exact ⟨_, _, _, rfl⟩
  · exact ⟨_, _, _, by rw [State.grant_entry, if_pos rfl]⟩

/-- The processing of an entry, in the seven cases of R85 to R89. -/
inductive Processed (s : State) (e : EntryIx) (u : State) : Prop
  | free (hstate : (s.entry e).state = .free) (hu : u = s)
  | hot (hstate : (s.entry e).state = .watch) (hhot : (sampledNow s e).hot = true)
      (hu : u = ((s.takeOver e).notify (.granuleHot e (s.entry e).granule)).attemptGrant e)
  | retired (hret : retiresNow s e) (hu : u = s.updEntry e fun _ => Entry.free)
  | stays (hstate : (s.entry e).state = .watch ∧ (sampledNow s e).hot = false ∧ ¬ retiresNow s e ∨
        (s.entry e).state = .queued ∧ (sampledNow s e).hot = true ∨
        (s.entry e).state = .drain ∧ (sampledNow s e).hot = false)
      (hu : u = s.updEntry e fun _ => sampledNow s e)
  | drains (hstate : (s.entry e).state = .queued) (hcool : (sampledNow s e).hot = false)
      (hserves : (s.entry e).holder ≠ none ∨ (s.entry e).queue ≠ [])
      (hu : u = s.updEntry e fun _ => { sampledNow s e with state := .drain })
  | cools (hstate : (s.entry e).state = .queued) (hcool : (sampledNow s e).hot = false)
      (hholder : (s.entry e).holder = none) (hqueue : (s.entry e).queue = [])
      (hu : u = (s.updEntry e fun _ => { sampledNow s e with state := .watch }).notify (.granuleCool e (s.entry e).granule))
  | reheats (hstate : (s.entry e).state = .drain) (hhot : (sampledNow s e).hot = true)
      (hu : u = s.updEntry e fun _ => { sampledNow s e with state := .queued })

theorem State.processed_processEntry : Processed s e (s.processEntry e) := by
  cases hstate : (s.entry e).state with
  | free => exact .free hstate (s.processEntry_free e hstate)
  | watch =>
    cases hhot : (sampledNow s e).hot with
    | true => exact .hot hstate hhot (s.processEntry_hot e hstate hhot)
    | false =>
      by_cases hret : retiresNow s e
      · exact .retired hret (s.processEntry_retire e hret)
      · exact .stays (.inl ⟨hstate, hhot, hret⟩) (s.processEntry_watch e hstate hhot hret)
  | queued =>
    cases hhot : (sampledNow s e).hot with
    | true => exact .stays (.inr (.inl ⟨hstate, hhot⟩)) (s.processEntry_queued e hstate hhot)
    | false =>
      by_cases hserves : (s.entry e).holder ≠ none ∨ (s.entry e).queue ≠ []
      · exact .drains hstate hhot hserves (s.processEntry_toDrain e hstate hhot hserves)
      · push Not at hserves
        exact .cools hstate hhot hserves.1 hserves.2 (s.processEntry_cool e hstate hhot hserves.1 hserves.2)
  | drain =>
    cases hhot : (sampledNow s e).hot with
    | true => exact .reheats hstate hhot (s.processEntry_reheat e hstate hhot)
    | false => exact .stays (.inr (.inr ⟨hstate, hhot⟩)) (s.processEntry_drain e hstate hhot)

theorem State.processEntry_entry_of_ne {i : EntryIx} (h : i ≠ e) : (s.processEntry e).entry i = s.entry i := by
  obtain ⟨-, hu⟩ | ⟨-, -, hu⟩ | ⟨-, hu⟩ | ⟨-, hu⟩ | ⟨-, -, -, hu⟩ | ⟨-, -, -, -, hu⟩ | ⟨-, -, hu⟩ :=
    s.processed_processEntry e <;> rw [hu]
  · rw [State.attemptGrant_entry_of_ne _ _ h, State.notify_entry, State.takeOver_entry, if_neg h]
  all_goals simp [h]

end

/-- What an entry `x` becomes at an expiry whose steps give `z`, in the seven cases of R85 to R89. -/
inductive Aged (x z y : Entry) : Prop
  | free (hstate : x.state = .free) (hy : y = x)
  | hot (hstate : x.state = .watch) (hhot : z.hot = true)
      (hy : ∃ h n q, y = { z with state := .queued, holder := h, tenure := n, queue := q })
  | retired (hret : x.state = .watch ∧ z.hot = false ∧ z.fast = 0 ∧ z.slow = 0 ∧ x.count = 0) (hy : y = Entry.free)
  | stays (hstate : x.state = .watch ∧ z.hot = false ∧
          ¬ (x.state = .watch ∧ z.hot = false ∧ z.fast = 0 ∧ z.slow = 0 ∧ x.count = 0) ∨
        x.state = .queued ∧ z.hot = true ∨ x.state = .drain ∧ z.hot = false)
      (hy : y = z)
  | drains (hstate : x.state = .queued) (hcool : z.hot = false) (hserves : x.holder ≠ none ∨ x.queue ≠ [])
      (hy : y = { z with state := .drain })
  | cools (hstate : x.state = .queued) (hcool : z.hot = false) (hholder : x.holder = none) (hqueue : x.queue = [])
      (hy : y = { z with state := .watch })
  | reheats (hstate : x.state = .drain) (hhot : z.hot = true) (hy : y = { z with state := .queued })

theorem State.aged_processEntry (s : State) (e : EntryIx) : Aged (s.entry e) (sampledNow s e) ((s.processEntry e).entry e) := by
  obtain ⟨h, hu⟩ | ⟨h, hh, hu⟩ | ⟨h, hu⟩ | ⟨h, hu⟩ | ⟨h, hc, hs, hu⟩ | ⟨h, hc, hh, hq, hu⟩ | ⟨h, hh, hu⟩ :=
    s.processed_processEntry e <;> rw [hu]
  · exact .free h rfl
  · refine .hot h hh ?_
    obtain ⟨holder, n, q, hself⟩ := State.attemptGrant_entry_self ((s.takeOver e).notify (.granuleHot e (s.entry e).granule)) e
    exact ⟨holder, n, q, by rw [hself, State.notify_entry, State.takeOver_entry, if_pos rfl]⟩
  · exact .retired h (by simp)
  · exact .stays h (by simp)
  · exact .drains h hc hs (by simp)
  · exact .cools h hc hh hq (by simp)
  · exact .reheats h hh (by simp)

/-! The entries of an expiry, each processed in its turn. -/

section

variable {s u : State} {e : EntryIx}

theorem sampledNow_congr (hentry : u.entry e = s.entry e) (hwindows : u.windows = s.windows) : sampledNow u e = sampledNow s e := by
  rw [sampledNow, sampledNow, hentry, State.window, State.window, hwindows]

theorem State.processed_foldl (l : List EntryIx) (s : State) (hnodup : l.Nodup) (e : EntryIx) :
    (e ∉ l → (l.foldl State.processEntry s).entry e = s.entry e) ∧
      (e ∈ l → Aged (s.entry e) (sampledNow s e) ((l.foldl State.processEntry s).entry e)) := by
  induction l generalizing s with
  | nil => simp
  | cons x l ih =>
    obtain ⟨hx, hnodup⟩ := List.nodup_cons.mp hnodup
    obtain ⟨hout, hin⟩ := ih (s.processEntry x) hnodup
    rw [List.foldl_cons]
    refine ⟨fun h => ?_, fun h => ?_⟩
    · rw [hout fun hl => h (by simp [hl]), State.processEntry_entry_of_ne _ _ fun he => h (by simp [he])]
    · by_cases he : e = x
      · subst he
        rw [hout hx]
        exact s.aged_processEntry e
      · have hentry := s.processEntry_entry_of_ne x he
        rw [sampledNow_congr hentry (s.processEntry_windows x), hentry] at hin
        exact hin ((List.mem_cons.mp h).resolve_left he)

/-- The sample timer starts again at an expiry, with the length the stored code gives (R154). -/
def State.timed (s : State) : State :=
  { s with sampleTimer := 0, sampleLength := Config.samplePeriod s.sampleCode, atExpiry := true }

theorem State.expire_eq (s : State) : s.expire = entryIxs.foldl State.processEntry s.timed := rfl

/-- Every entry ages as the rules say at an expiry (R85 to R89). -/
theorem State.aged_expire (s : State) (e : EntryIx) : Aged (s.entry e) (sampledNow s e) (s.expire.entry e) := by
  have h := (State.processed_foldl entryIxs s.timed (List.nodup_finRange 32) e).2 (List.mem_finRange e)
  rw [sampledNow_congr (s := s) (u := s.timed) rfl rfl, ← State.expire_eq] at h
  exact h

/-- A sample-period expiry commanded on a live part (log entry 4). -/
theorem exec_samplePeriodExpiry (hlive : s.live = true) : exec .samplePeriodExpiry s = .next s.quiet.expire.took := by
  show execSamplePeriodExpiry s = _
  unfold execSamplePeriodExpiry
  dsimp only
  rw [if_pos (show s.quiet.live = true from hlive)]

end

/-- Settles O36: each of the cases decides the state, and only a WATCH entry that turns hot moves more than filters. -/
theorem expiryDecidesStates : Obligations.ExpiryDecidesStates := by
  intro s hlive
  refine ⟨_, exec_samplePeriodExpiry hlive, fun e => ?_⟩
  rw [State.took_entry]
  have haged : Aged (s.entry e) (sampledNow s e) (s.quiet.expire.entry e) := s.quiet.aged_expire e
  have hretires : retiresNow s e ↔ (s.entry e).state = .watch ∧ (sampledNow s e).hot = false ∧
    (sampledNow s e).fast = 0 ∧ (sampledNow s e).slow = 0 ∧ (s.entry e).count = 0 := Iff.rfl
  have hstate : (sampledNow s e).state = (s.entry e).state := rfl
  have hholder : (sampledNow s e).holder = (s.entry e).holder := rfl
  have htenure : (sampledNow s e).tenure = (s.entry e).tenure := rfl
  have hqueue : (sampledNow s e).queue = (s.entry e).queue := rfl
  rw [hretires]
  generalize sampledNow s e = z at *
  generalize s.quiet.expire.entry e = y at *
  generalize s.entry e = x at *
  cases haged with
  | free h hy => simp [h]
  | hot h hh hy =>
    obtain ⟨o, n, q, rfl⟩ := hy
    simp [h, hh]
  | retired h hy =>
    obtain ⟨hw, hc, hrest⟩ := h
    simp [hw, hc, hrest]
  | stays h hy =>
    obtain ⟨hw, hc, hret⟩ | ⟨hq, hh⟩ | ⟨hd, hc⟩ := h
    · simp [hy, hw, hc, hstate]
    · simp [hy, hq, hh, hstate, hholder, htenure, hqueue]
    · simp [hy, hd, hc, hstate, hholder, htenure, hqueue]
  | drains h hc hs hy =>
    have hbusy : x.holder = none → x.queue ≠ [] := fun hn => hs.resolve_left fun hh => hh hn
    simpa [hy, h, hc, hholder, htenure, hqueue] using hbusy
  | cools h hc hh hq hy => simp [hy, h, hc, hh, hq, hholder, htenure, hqueue]
  | reheats h hh hy => simp [hy, h, hh, hholder, htenure, hqueue]

/-! The steps of the filters, in rational numbers (R78 to R84). -/

/-- The model's quotient is the quotient rounded up. -/
theorem ceil_eq_ceilDiv (a b : Nat) (hb : 0 < b) : ⌈(a : ℚ) / b⌉₊ = ceilDiv a b := by
  have h : ceilDiv a b = a ⌈/⌉ b := (Nat.ceilDiv_eq_add_pred_div a b).symm
  rw [h]
  refine eq_of_forall_ge_iff fun n => ?_
  rw [Nat.ceil_le, ceilDiv_le_iff_le_mul hb, div_le_iff₀ (by exact_mod_cast hb), mul_comm]
  exact_mod_cast Iff.rfl

theorem warmOf_iff (th : BitVec 6) (f v : Nat) : warmOf th f v = true ↔ f > v + th.toNat * 1024 := by
  simp [warmOf]

theorem hotOf_iff (th : BitVec 6) (hy : BitVec 5) (hot : Bool) (f v : Nat) : hotOf th hy hot f v = true ↔
    if hot = true then ¬ ((f : ℤ) < v + th.toNat * 1024 - hy.toNat * 512)
    else (f : ℤ) > v + th.toNat * 1024 + hy.toNat * 512 := by
  unfold hotOf
  split_ifs
  · rw [Bool.not_eq_true', decide_eq_false_iff_not]
    omega
  · rw [decide_eq_true_eq]
    omega

/-- The model's steps are those of the rules. -/
theorem sampledTo_sampled (w : Window) (x : Entry) : sampledTo w x (x.sampled w) := by
  have h2 : ∀ a : Nat, ⌈(a : ℚ) / 2⌉₊ = ceilDiv a 2 := fun a => by exact_mod_cast ceil_eq_ceilDiv a 2 (by norm_num)
  have h256 : ∀ a : Nat, ⌈(a : ℚ) / 256⌉₊ = ceilDiv a 256 := fun a => by exact_mod_cast ceil_eq_ceilDiv a 256 (by norm_num)
  have hdecay : ∀ a : Nat, ⌈(a : ℚ) / 2 ^ (w.decay.toNat + 2)⌉₊ = ceilDiv a (2 ^ (w.decay.toNat + 2)) := fun a => by
    exact_mod_cast ceil_eq_ceilDiv a (2 ^ (w.decay.toNat + 2)) (by positivity)
  refine ⟨?_, ?_, warmOf_iff _ _ _, hotOf_iff _ _ _ _ _, rfl⟩
  · simp only [h2, hdecay]
    rfl
  · simp only [h256, ← Entry.serving_iff, ← Bool.and_eq_true]
    rfl

end Sys2Proof.Machine
end

section
/-! SUPPORT. The sample-period expiry: its notices and what it leaves alone (O35). -/

namespace Sys2Proof.Machine

open Sys2Proof.Safety Sys2Proof.Claim

/-! The notices of an expiry, in index order (R77). -/

/-- The notice queue, its flags and its mask are the same. -/
def SameFlags (s v : State) : Prop :=
  v.mask = s.mask ∧ v.notices = s.notices ∧ v.overflow = s.overflow ∧ v.discardMark = s.discardMark

theorem SameFlags.refl (s : State) : SameFlags s s := ⟨rfl, rfl, rfl, rfl⟩

theorem SameFlags.trans {s t u : State} (h : SameFlags s t) (k : SameFlags t u) : SameFlags s u :=
  ⟨k.1.trans h.1, k.2.1.trans h.2.1, k.2.2.1.trans h.2.2.1, k.2.2.2.trans h.2.2.2⟩

theorem SameFlags.notify {s v : State} (h : SameFlags s v) (n : Notice) : SameFlags (s.notify n) (v.notify n) := by
  obtain ⟨hmask, hnotices, hoverflow, hmark⟩ := h
  exact ⟨by simpa using hmask, State.notify_flags_congr hmask hnotices hoverflow hmark n⟩

/-- What one entry hands over at an expiry. -/
def State.handedBy (s : State) (n : Option Notice) : State := n.elim s s.notify

section

variable (s : State) (e : EntryIx)

/-- The processing of an entry hands its notice over and leaves the flags otherwise. -/
theorem State.processEntry_flags : SameFlags (s.handedBy (expiryNotice s e)) (s.processEntry e) := by
  have hupd : ∀ f : Entry → Entry, SameFlags s (s.updEntry e f) := fun f => ⟨by simp, by simp, by simp, by simp⟩
  obtain ⟨h, hu⟩ | ⟨h, hh, hu⟩ | ⟨h, hu⟩ | ⟨h, hu⟩ | ⟨h, hc, hs, hu⟩ | ⟨h, hc, hh, hq, hu⟩ | ⟨h, hh, hu⟩ :=
    s.processed_processEntry e <;> rw [hu]
  · rw [expiryNotice, h]; exact SameFlags.refl s
  · rw [expiryNotice, h, hh]
    have htake : SameFlags s (s.takeOver e) := by
      refine ⟨?_, ?_, ?_, ?_⟩ <;> simp [State.takeOver, State.turnHot]
    exact (htake.notify _).trans ⟨by simp, by simp, by simp, by simp⟩
  · rw [expiryNotice, h.1, h.2.1]; exact hupd _
  · obtain ⟨hw, hc, -⟩ | ⟨hq, hh⟩ | ⟨hd, hc⟩ := h
    · rw [expiryNotice, hw, hc]; exact hupd _
    · rw [expiryNotice, hq, hh]; exact hupd _
    · rw [expiryNotice, hd, hc]; exact hupd _
  · have hnot : ¬ ((s.entry e).holder = none ∧ (s.entry e).queue = []) := fun ⟨h1, h2⟩ => hs.elim (· h1) (· h2)
    rw [expiryNotice, h, hc]
    dsimp only
    rw [if_neg hnot]
    exact hupd _
  · rw [expiryNotice, h, hc]
    dsimp only
    rw [if_pos ⟨hh, hq⟩]
    exact (hupd _).notify _
  · rw [expiryNotice, h, hh]; exact hupd _

end

theorem expiryNotice_congr {s u : State} {e : EntryIx} (hentry : u.entry e = s.entry e) (hwindows : u.windows = s.windows) :
    expiryNotice u e = expiryNotice s e := by
  rw [expiryNotice, expiryNotice, sampledNow_congr hentry hwindows, hentry]

/-- The notices of a list of entries are handed over in its order. -/
theorem State.flags_foldl (l : List EntryIx) {s t v : State} (hnodup : l.Nodup) (hentry : ∀ e ∈ l, v.entry e = s.entry e)
    (hwindows : v.windows = s.windows) (h : SameFlags t v) :
    SameFlags ((l.filterMap (expiryNotice s)).foldl State.notify t) (l.foldl State.processEntry v) := by
  induction l generalizing t v with
  | nil => exact h
  | cons x l ih =>
    obtain ⟨hx, hnodup⟩ := List.nodup_cons.mp hnodup
    have hstep : SameFlags (t.handedBy (expiryNotice s x)) (v.processEntry x) := by
      have hp := v.processEntry_flags x
      rw [expiryNotice_congr (hentry x (by simp)) hwindows] at hp
      refine SameFlags.trans ?_ hp
      cases expiryNotice s x with
      | none => exact h
      | some n => exact h.notify n
    have hrest := ih (t := t.handedBy (expiryNotice s x)) (v := v.processEntry x) hnodup
      (fun e he => by
        rw [State.processEntry_entry_of_ne v x (fun h : e = x => hx (h ▸ he)), hentry e (by simp [he])])
      (by rw [State.processEntry_windows, hwindows]) hstep
    rw [List.foldl_cons, List.filterMap_cons]
    cases hn : expiryNotice s x with
    | none => rw [hn] at hrest; exact hrest
    | some n => rw [hn] at hrest; exact hrest

/-! Expiries at which no entry turns hot. -/

/-- The contexts, the lists and the released reads are the same. -/
def SameLists (s v : State) : Prop :=
  v.contexts = s.contexts ∧ v.flight = s.flight ∧ v.hazard = s.hazard ∧ v.released = s.released

theorem State.processEntry_lists {s : State} {e : EntryIx} (hcool : ¬ turnsHot s e) : SameLists s (s.processEntry e) := by
  have hupd : ∀ f : Entry → Entry, SameLists s (s.updEntry e f) := fun f => ⟨by simp, by simp, by simp, by simp⟩
  obtain ⟨-, hu⟩ | ⟨h, hh, -⟩ | ⟨-, hu⟩ | ⟨-, hu⟩ | ⟨-, -, -, hu⟩ | ⟨-, -, -, -, hu⟩ | ⟨-, -, hu⟩ :=
    s.processed_processEntry e
  · rw [hu]; exact ⟨rfl, rfl, rfl, rfl⟩
  · exact absurd ⟨h, hh⟩ hcool
  · rw [hu]; exact hupd _
  · rw [hu]; exact hupd _
  · rw [hu]; exact hupd _
  · rw [hu]; exact ⟨by simp, by simp, by simp, by simp⟩
  · rw [hu]; exact hupd _

theorem turnsHot_congr {s u : State} {e : EntryIx} (hentry : u.entry e = s.entry e) (hwindows : u.windows = s.windows) :
    turnsHot u e ↔ turnsHot s e := by
  rw [turnsHot, turnsHot, sampledNow_congr hentry hwindows, hentry]

theorem State.lists_foldl (l : List EntryIx) {s v : State} (hnodup : l.Nodup) (hentry : ∀ e ∈ l, v.entry e = s.entry e)
    (hwindows : v.windows = s.windows) (hcool : ∀ e ∈ l, ¬ turnsHot s e) : SameLists v (l.foldl State.processEntry v) := by
  induction l generalizing v with
  | nil => exact ⟨rfl, rfl, rfl, rfl⟩
  | cons x l ih =>
    obtain ⟨hx, hnodup⟩ := List.nodup_cons.mp hnodup
    obtain ⟨h1, h2, h3, h4⟩ := State.processEntry_lists (s := v) (e := x) fun h =>
      hcool x (by simp) ((turnsHot_congr (hentry x (by simp)) hwindows).mp h)
    obtain ⟨k1, k2, k3, k4⟩ := ih (v := v.processEntry x) hnodup
      (fun e he => by
        rw [State.processEntry_entry_of_ne v x (fun h : e = x => hx (h ▸ he)), hentry e (by simp [he])])
      (by rw [State.processEntry_windows, hwindows]) fun e he => hcool e (by simp [he])
    exact ⟨k1.trans h1, k2.trans h2, k3.trans h3, k4.trans h4⟩

/-- Settles O35: every entry ages in its turn, and the rest of the state follows from the frame of an expiry. -/
theorem expiryMovesFilters : Obligations.ExpiryMovesFilters := by
  intro s hlive
  obtain ⟨-, hnotices, hoverflow, hmark⟩ : SameFlags (expiryNotices s) s.quiet.expire := by
    rw [State.expire_eq]
    exact State.flags_foldl entryIxs (List.nodup_finRange 32) (fun e _ => rfl) rfl ⟨rfl, rfl, rfl, rfl⟩
  obtain ⟨htimer, hlength, hat⟩ := s.quiet.expire_timebase
  refine ⟨_, exec_samplePeriodExpiry hlive, ?_, fun hcool => ?_, fun e => ?_⟩
  · apply State.ext
    case notices => simp [hnotices]
    case overflow => simp [hoverflow]
    case discardMark => simp [hmark]
    case sampleTimer => simp [htimer]
    case sampleLength => simp [hlength, Config.samplePeriod]
    case atExpiry => simp [hat]
    case out => simp [moved, Out.none]
    all_goals simp
  · have h := State.lists_foldl (s := s) (v := s.quiet.timed) entryIxs (List.nodup_finRange 32) (fun e _ => rfl) rfl
      fun e _ => hcool e
    rw [← State.expire_eq] at h
    obtain ⟨hctx, hflight, hhazard, hreleased⟩ := h
    rw [State.took_contexts, State.took_flight, State.took_hazard, State.took_released, hctx, hflight, hhazard, hreleased]
    exact ⟨rfl, rfl, rfl, rfl⟩
  · rw [State.took_entry]
    have haged : Aged (s.entry e) (sampledNow s e) (s.quiet.expire.entry e) := s.quiet.aged_expire e
    have hsampled : sampledTo (s.window (s.entry e).granule.window) (s.entry e) (sampledNow s e) := sampledTo_sampled _ _
    have hgran : (sampledNow s e).granule = (s.entry e).granule := rfl
    have hretires : retiresNow s e ↔ (s.entry e).state = .watch ∧ (sampledNow s e).hot = false ∧
      (sampledNow s e).fast = 0 ∧ (sampledNow s e).slow = 0 ∧ (s.entry e).count = 0 := Iff.rfl
    rw [hretires]
    generalize sampledNow s e = z at *
    generalize s.quiet.expire.entry e = y at *
    generalize s.window (s.entry e).granule.window = w at *
    generalize s.entry e = x at *
    cases haged with
    | free h hy => exact ⟨fun _ => hy, fun hr => absurd hr.1 (by simp [h]), fun hn => absurd h hn⟩
    | hot h hh hy =>
      obtain ⟨o, n, q, rfl⟩ := hy
      exact ⟨fun hf => absurd hf (by simp [h]), fun hr => absurd hr.2.1 (by simp [hh]), fun _ _ => ⟨hsampled, hgran⟩⟩
    | retired h hy => exact ⟨fun hf => absurd hf (by simp [h.1]), fun _ => hy, fun _ hn => absurd h hn⟩
    | stays h hy =>
      rw [hy]
      obtain ⟨hw, hc, hret⟩ | ⟨hq, hh⟩ | ⟨hd, hc⟩ := h
      · exact ⟨fun hf => absurd hf (by simp [hw]), fun hr => absurd hr hret, fun _ _ => ⟨hsampled, hgran⟩⟩
      · exact ⟨fun hf => absurd hf (by simp [hq]), fun hr => absurd hr.1 (by simp [hq]), fun _ _ => ⟨hsampled, hgran⟩⟩
      · exact ⟨fun hf => absurd hf (by simp [hd]), fun hr => absurd hr.1 (by simp [hd]), fun _ _ => ⟨hsampled, hgran⟩⟩
    | drains h hc hs hy =>
      rw [hy]
      exact ⟨fun hf => absurd hf (by simp [h]), fun hr => absurd hr.1 (by simp [h]), fun _ _ => ⟨hsampled, hgran⟩⟩
    | cools h hc hh hq hy =>
      rw [hy]
      exact ⟨fun hf => absurd hf (by simp [h]), fun hr => absurd hr.1 (by simp [h]), fun _ _ => ⟨hsampled, hgran⟩⟩
    | reheats h hh hy =>
      rw [hy]
      exact ⟨fun hf => absurd hf (by simp [h]), fun hr => absurd hr.1 (by simp [h]), fun _ _ => ⟨hsampled, hgran⟩⟩

end Sys2Proof.Machine
end

section
/-! SUPPORT. The sample-period expiry takes over the granules of the entries that turn hot (O37). -/

namespace Sys2Proof.Machine

open Sys2Proof.Safety Sys2Proof.Claim

/-! The take-over of granules (O37). -/

/-- What a context keeps when the granules that `h` gives entries for are taken over (R35, R67, R86). -/
def Context.takenBy (h : Granule → Option EntryIx) (c : Context) : Context :=
  { reservation := c.reservation.filter fun g => (h g).isNone
    parked := c.parked.map fun p =>
      match p.reason, h p.granule with
      | .hazard, some e => { p with reason := .queue e }
      | _, _ => p
    holdership := c.holdership }

/-- A reservation lies on a granule that is taken over. -/
def Context.reserves (h : Granule → Option EntryIx) (c : Context) : Bool := c.reservation.any fun g => (h g).isSome

/-- The granules that `h` gives entries for are taken over, and nothing else of the contexts and lists changes. -/
structure TakenOver (h : Granule → Option EntryIx) (s u : State) : Prop where
  ctx : ∀ m, u.ctx m = (s.ctx m).takenBy h
  flight : u.flight = s.flight.map (Flight.unmark fun m => (s.ctx m).reserves h)
  hazard : u.hazard = s.hazard.filter fun m => !(s.ctx m).parked.any fun p => (h p.granule).isSome
  released : u.released = s.released.map (Released.disarm fun r => (h r.granule).isSome || (s.ctx r.master).reserves h)

theorem Context.takenBy_takenBy (h k : Granule → Option EntryIx) (c : Context) :
    (c.takenBy h).takenBy k = c.takenBy fun g => (h g).or (k g) := by
  obtain ⟨reservation, parked, holdership⟩ := c
  unfold Context.takenBy
  congr 1
  · cases reservation with
    | none => rfl
    | some g => cases h g <;> simp
  · cases parked with
    | none => rfl
    | some p =>
      obtain ⟨t, a, z, g, why⟩ := p
      cases why <;> cases hg : h g <;> cases kg : k g <;> simp [hg, kg]

theorem Context.reserves_takenBy (h k : Granule → Option EntryIx) (c : Context) :
    (c.reserves h || (c.takenBy h).reserves k) = c.reserves fun g => (h g).or (k g) := by
  obtain ⟨reservation, parked, holdership⟩ := c
  cases reservation with
  | none => rfl
  | some g => cases hg : h g <;> simp [Context.reserves, Context.takenBy, hg]

/-- A take-over moves a parked read between lists, and not between granules. -/
theorem Context.takenBy_any_granule (h : Granule → Option EntryIx) (f : Granule → Bool) (c : Context) :
    ((c.takenBy h).parked.any fun p => f p.granule) = c.parked.any fun p => f p.granule := by
  obtain ⟨reservation, parked, holdership⟩ := c
  cases parked with
  | none => rfl
  | some p =>
    obtain ⟨t, a, z, g, why⟩ := p
    cases why <;> cases hg : h g <;> simp [Context.takenBy, hg]

theorem Released.disarm_comp (p q : Released → Bool) (r : Released) (hq : q (r.disarm p) = q r) :
    (r.disarm p).disarm q = r.disarm fun r => p r || q r := by
  obtain ⟨m, t, a, z, g, mode⟩ := r
  unfold Released.disarm at *
  cases mode <;> split_ifs at * <;> simp_all [ArmMode.disarm]

/-- Take-overs one after the other. -/
theorem TakenOver.trans {h k : Granule → Option EntryIx} {s t u : State} (hst : TakenOver h s t) (htu : TakenOver k t u) :
    TakenOver (fun g => (h g).or (k g)) s u where
  ctx m := by rw [htu.ctx, hst.ctx, Context.takenBy_takenBy]
  flight := by
    rw [htu.flight, hst.flight, List.map_map]
    simp only [hst.ctx, Function.comp_def, Flight.unmark_comp, Context.reserves_takenBy]
  hazard := by
    rw [htu.hazard, hst.hazard, List.filter_filter]
    simp only [hst.ctx, Context.takenBy_any_granule h fun g => (k g).isSome]
    refine List.filter_congr fun m _ => ?_
    cases (s.ctx m).parked with
    | none => rfl
    | some p => cases hg : h p.granule <;> cases kg : k p.granule <;> simp [hg, kg]
  released := by
    rw [htu.released, hst.released, List.map_map]
    refine List.map_congr_left fun r _ => ?_
    rw [Function.comp_apply, Released.disarm_comp _ _ _ (by simp)]
    congr 1
    funext q
    rw [hst.ctx, ← Context.reserves_takenBy h k]
    cases hg : h q.granule <;> cases kg : k q.granule <;> cases (s.ctx q.master).reserves h <;> simp

theorem Context.takenBy_none (c : Context) : c.takenBy (fun _ => none) = c := by
  obtain ⟨reservation, parked, holdership⟩ := c
  cases reservation with
  | none =>
    cases parked with
    | none => rfl
    | some p => cases hr : p.reason <;> simp [Context.takenBy]
  | some g =>
    cases parked with
    | none => rfl
    | some p => cases hr : p.reason <;> simp [Context.takenBy]

theorem Context.reserves_none (c : Context) : c.reserves (fun _ => none) = false := by
  unfold Context.reserves
  cases c.reservation <;> rfl

theorem Flight.unmark_never (f : Flight) : f.unmark (fun _ => false) = f := by
  unfold Flight.unmark
  cases f.kind <;> rfl

/-- With nothing taken over nothing changes. -/
theorem TakenOver.of_none {s u : State} (h : SameLists s u) : TakenOver (fun _ => none) s u where
  ctx m := by rw [State.ctx_congr h.1 m, Context.takenBy_none]
  flight := by
    simp only [h.2.1, Context.reserves_none]
    exact (List.map_id'' (fun f => f.unmark_never) _).symm
  hazard := by
    rw [h.2.2.1]
    refine (List.filter_eq_self.mpr fun m _ => ?_).symm
    cases (s.ctx m).parked <;> rfl
  released := by
    simp only [h.2.2.2, Context.reserves_none]
    exact (List.map_id'' (fun r => rfl) _).symm

/-- The entry that one entry's processing gives for a granule. -/
def State.hotAt (s : State) (x : EntryIx) (g : Granule) : Option EntryIx :=
  if (s.entry x).state = .watch ∧ (sampledNow s x).hot = true ∧ (s.entry x).granule = g then some x else none

section

variable {s : State} (hs : Agree s) (hhazards : s.HazardsOk) {e : EntryIx}
include hs hhazards

/-- The hazard reads that join the queue wait for a write in flight, so that nobody is granted (R94). -/
theorem Agree.processEntry_hot_eq (hwatch : (s.entry e).state = .watch) (hhot : (sampledNow s e).hot = true) :
    s.processEntry e = (s.takeOver e).notify (.granuleHot e (s.entry e).granule) := by
  rw [State.processEntry_hot s e hwatch hhot]
  obtain h | ⟨m, hm, -, -, hcov, -⟩ :=
    ((s.takeOver e).notify (.granuleHot e (s.entry e).granule)).attemptGrant_cases e
  · exact h
  · exfalso
    have hqueue := ((hs.law10 e).2.1 hwatch).2.1
    rw [State.notify_entry, State.takeOver_entry, if_pos rfl, hqueue, List.nil_append] at hm
    obtain ⟨hmem, hon⟩ := List.mem_filter.mp (List.mem_of_mem_head? hm)
    obtain ⟨p, hp, hg⟩ := Option.any_eq_true _ _ |>.mp hon
    have hcovered := hhazards m hmem p hp
    rw [of_decide_eq_true hg] at hcovered
    have hsame : ((s.takeOver e).notify (.granuleHot e (s.entry e).granule)).covered (s.entry e).granule =
        s.covered (s.entry e).granule := by
      rw [State.covered_congr (t := s.takeOver e) (by simp) (by simp), (hs.requeued_takeOver hwatch hhot).covered,
        (s.loosened_freedGranule e).covered]
    rw [State.notify_entry, State.takeOver_entry, if_pos rfl] at hcov
    rw [← hsame] at hcovered
    exact absurd (hcovered.symm.trans hcov) (by simp)

/-- The processing of one entry takes its granule over where it turns hot, and changes no record otherwise. -/
theorem Agree.takenOver_processEntry : TakenOver (s.hotAt e) s (s.processEntry e) := by
  by_cases hhot : turnsHot s e
  · have hat : ∀ g, s.hotAt e g = if g = (s.entry e).granule then some e else none := fun g => by
      simp [State.hotAt, hhot.1, hhot.2, eq_comm]
    have hres : ∀ c : Context, c.reserves (s.hotAt e) = decide (c.reservation = some (s.entry e).granule) := fun c => by
      unfold Context.reserves
      cases c.reservation with
      | none => rfl
      | some g => by_cases hg : g = (s.entry e).granule <;> simp [hat, hg]
    have hon : ∀ m, ((s.ctx m).parked.any fun p => (s.hotAt e p.granule).isSome) = s.parkedOn m (s.entry e).granule := fun m => by
      unfold State.parkedOn
      cases (s.ctx m).parked with
      | none => rfl
      | some p => by_cases hg : p.granule = (s.entry e).granule <;> simp [hat, hg]
    rw [hs.processEntry_hot_eq hhazards hhot.1 hhot.2]
    constructor
    case ctx =>
      intro m
      have hclear : (if (s.ctx m).reservation = some (s.entry e).granule then { s.ctx m with reservation := none }
          else s.ctx m) = { s.ctx m with reservation := (s.ctx m).reservation.filter fun g => (s.hotAt e g).isNone } := by
        obtain ⟨reservation, parked, holdership⟩ := s.ctx m
        cases reservation with
        | none => rfl
        | some g => by_cases hg : g = (s.entry e).granule <;> simp [Option.filter, hat, hg]
      rw [State.notify_ctx, State.takeOver_ctx, State.turnHot_ctx, hclear, Context.takenBy]
      have hmem := hs.hazarded m
      cases hp : (s.ctx m).parked with
      | none => simp [State.parkedOn, hp]
      | some p =>
        have hlisted : m ∈ s.hazard ↔ p.reason = .hazard := by rw [hmem]; simp [hp]
        cases hr : p.reason <;> by_cases hg : p.granule = (s.entry e).granule <;>
          simp [State.parkedOn, hp, hr, hg, hat, hlisted]
    case flight => simp only [State.notify_flight, State.takeOver_flight, hres]
    case hazard => simp only [State.notify_hazard, State.takeOver_hazard, hon]
    case released =>
      simp only [State.notify_released, State.takeOver_released, hres, List.map_map]
      refine List.map_congr_left fun r _ => ?_
      rw [Function.comp_apply, Released.disarm_comp _ _ _ (by simp)]
      congr 1
      funext q
      by_cases hg : q.granule = (s.entry e).granule <;> simp [hat, hg]
  · have hat : s.hotAt e = fun _ => none := by
      funext g
      exact if_neg fun h => hhot ⟨h.1, h.2.1⟩
    rw [hat]
    exact TakenOver.of_none (State.processEntry_lists hhot)

end

/-! The whole expiry. -/

/-- The entry of a list that turns hot on a granule. -/
def State.hotIn (s : State) (l : List EntryIx) (g : Granule) : Option EntryIx :=
  l.find? fun e => decide ((s.entry e).state = .watch) && (sampledNow s e).hot && decide ((s.entry e).granule = g)

section

variable {s v : State}

theorem State.hotIn_cons (x : EntryIx) (l : List EntryIx) (g : Granule) :
    s.hotIn (x :: l) g = (s.hotAt x g).or (s.hotIn l g) := by
  unfold State.hotIn State.hotAt
  rw [List.find?_cons]
  split_ifs with h
  · simp [h.1, h.2.1, h.2.2]
  · have hfalse : (decide ((s.entry x).state = .watch) && (sampledNow s x).hot && decide ((s.entry x).granule = g)) = false := by
      simpa [and_assoc] using h
    rw [hfalse]
    simp

theorem State.hotAt_congr {x : EntryIx} (hentry : v.entry x = s.entry x) (hwindows : v.windows = s.windows) :
    v.hotAt x = s.hotAt x := by
  funext g
  rw [State.hotAt, State.hotAt, sampledNow_congr hentry hwindows, hentry]

/-- The entries of a list take their granules over, each in its turn. -/
theorem State.takenOver_foldl (l : List EntryIx) (hs : Agree v) (hhazards : v.HazardsOk) (hnodup : l.Nodup)
    (hentry : ∀ e ∈ l, v.entry e = s.entry e) (hwindows : v.windows = s.windows) :
    TakenOver (s.hotIn l) v (l.foldl State.processEntry v) := by
  induction l generalizing v with
  | nil => exact TakenOver.of_none ⟨rfl, rfl, rfl, rfl⟩
  | cons x l ih =>
    obtain ⟨hx, hnodup⟩ := List.nodup_cons.mp hnodup
    have hkept := State.kept_processEntry hs x
    have hstep := hs.takenOver_processEntry hhazards (e := x)
    rw [State.hotAt_congr (hentry x (by simp)) hwindows] at hstep
    have hrest := ih (v := v.processEntry x) hkept.agree (hkept.hazards hhazards) hnodup
      (fun e he => by
        rw [State.processEntry_entry_of_ne v x (fun h : e = x => hx (h ▸ he)), hentry e (by simp [he])])
      (by rw [State.processEntry_windows, hwindows])
    have hboth := hstep.trans hrest
    rw [show s.hotIn (x :: l) = fun g => (s.hotAt x g).or (s.hotIn l g) from funext (State.hotIn_cons x l)]
    exact hboth

/-- An entry that turns hot at its turn. -/
theorem Agree.processEntry_hot_entry (hs : Agree s) (hhazards : s.HazardsOk) {e : EntryIx} (hhot : turnsHot s e) :
    (s.processEntry e).entry e = { sampledNow s e with
      state := .queued, queue := s.hazard.filter fun m => s.parkedOn m (s.entry e).granule } := by
  have hqueue := ((hs.law10 e).2.1 hhot.1).2.1
  rw [hs.processEntry_hot_eq hhazards hhot.1 hhot.2, State.notify_entry, State.takeOver_entry, if_pos rfl, hqueue, List.nil_append]

/-- An earlier entry's processing leaves the hazard reads on the granule of another (R72). -/
theorem Agree.hazardReads_processEntry (hs : Agree s) (hhazards : s.HazardsOk) {x e : EntryIx} (hne : e ≠ x)
    (hused : (s.entry e).state ≠ .free) :
    (s.processEntry x).hazard.filter (fun m => (s.processEntry x).parkedOn m (s.entry e).granule) =
      s.hazard.filter fun m => s.parkedOn m (s.entry e).granule := by
  have ht := hs.takenOver_processEntry hhazards (e := x)
  have hon : ∀ m, (s.processEntry x).parkedOn m (s.entry e).granule = s.parkedOn m (s.entry e).granule := fun m => by
    rw [State.parkedOn, State.parkedOn, ht.ctx, Context.takenBy_any_granule _ (fun g => decide (g = (s.entry e).granule))]
  have hcold : s.hotAt x (s.entry e).granule = none :=
    if_neg fun ⟨hw, _, hg⟩ => hne (hs.tracked e x hused (by rw [hw]; decide) hg.symm)
  simp only [hon]
  rw [ht.hazard, List.filter_filter]
  refine List.filter_congr fun m _ => ?_
  unfold State.parkedOn
  cases (s.ctx m).parked with
  | none => rfl
  | some p => by_cases hg : p.granule = (s.entry e).granule <;> simp [hg, hcold]

/-- The entries of a list that turn hot queue the hazard reads on their granules. -/
theorem State.hotEntries_foldl (l : List EntryIx) (hs : Agree v) (hhazards : v.HazardsOk) (hnodup : l.Nodup)
    {e : EntryIx} (he : e ∈ l) (hhot : turnsHot v e) :
    (l.foldl State.processEntry v).entry e = { sampledNow v e with
      state := .queued, queue := v.hazard.filter fun m => v.parkedOn m (v.entry e).granule } := by
  induction l generalizing v with
  | nil => simp at he
  | cons x l ih =>
    obtain ⟨hx, hrest⟩ := List.nodup_cons.mp hnodup
    rw [List.foldl_cons]
    by_cases hex : e = x
    · subst hex
      rw [(State.processed_foldl l _ hrest e).1 hx, hs.processEntry_hot_entry hhazards hhot]
    · have hkept := State.kept_processEntry hs x
      have hentry := v.processEntry_entry_of_ne x hex
      have hwindows := v.processEntry_windows x
      have hused : (v.entry e).state ≠ .free := by rw [hhot.1]; decide
      rw [ih hkept.agree (hkept.hazards hhazards) hrest ((List.mem_cons.mp he).resolve_left hex)
        ((turnsHot_congr hentry hwindows).mpr hhot), sampledNow_congr hentry hwindows, hentry,
        hs.hazardReads_processEntry hhazards hex hused]

end

/-- Settles O37: each entry that turns hot takes its granule over in its turn, and none grants. -/
theorem enteringQueuedTakesOverGranule : Obligations.EnteringQueuedTakesOverGranule := by
  intro s hcoherent hcovered hlive
  obtain ⟨hs, htenures, -⟩ := (coherent_iff_entries s).mp hcoherent
  have hhazards := ((waitersCovered_iff s).mp hcovered).2
  have hsame : SameRecords s s.quiet.timed := by constructor <;> rfl
  have hkept := hsame.kept hs
  have hentry : ∀ e, s.quiet.timed.entry e = s.entry e := fun _ => rfl
  have hctx : ∀ m, s.quiet.timed.ctx m = s.ctx m := fun _ => rfl
  have hwindows : s.quiet.timed.windows = s.windows := rfl
  have hlists : s.quiet.timed.flight = s.flight ∧ s.quiet.timed.hazard = s.hazard ∧ s.quiet.timed.released = s.released :=
    ⟨rfl, rfl, rfl⟩
  have hflags : SameFlags s s.quiet.timed := ⟨rfl, rfl, rfl, rfl⟩
  have hexec := exec_samplePeriodExpiry hlive
  rw [State.expire_eq] at hexec
  generalize s.quiet.timed = v at *
  obtain ⟨hflight, hhazard, hreleased⟩ := hlists
  have htaken := State.takenOver_foldl (s := s) entryIxs hkept.agree (hkept.hazards hhazards) (List.nodup_finRange 32)
    (fun e _ => hentry e) hwindows
  have hnotices := State.flags_foldl (s := s) entryIxs (List.nodup_finRange 32) (fun e _ => hentry e) hwindows hflags
  have hhot : ∀ e, turnsHot s e → (entryIxs.foldl State.processEntry v).entry e = { sampledNow s e with
      state := .queued, queue := s.hazard.filter fun m => s.parkedOn m (s.entry e).granule } := fun e he => by
    have h := State.hotEntries_foldl entryIxs hkept.agree (hkept.hazards hhazards) (List.nodup_finRange 32)
      (List.mem_finRange e) ((turnsHot_congr (hentry e) hwindows).mpr he)
    rw [sampledNow_congr (hentry e) hwindows, hhazard, hentry] at h
    simp only [State.parkedOn, hctx] at h
    exact h
  refine ⟨_, hexec, fun m => ?_, ?_, ?_, ?_, ?_, fun e he => ?_⟩
  · rw [State.took_ctx, htaken.ctx, hctx]
    rfl
  · rw [State.took_flight, htaken.flight, hflight]
    simp only [hctx]
    rfl
  · rw [State.took_hazard, htaken.hazard, hhazard]
    simp only [hctx]
    rfl
  · rw [State.took_released, htaken.released, hreleased]
    simp only [hctx]
    rfl
  · rw [State.took_notices, hnotices.2.1]
    rfl
  · obtain ⟨hholder, -, -⟩ := (hs.law10 e).2.1 he.1
    rw [State.took_entry, hhot e he, expiryNotice, he.1, he.2]
    exact ⟨rfl, hholder, (htenures e).1 hholder, rfl, rfl⟩

end Sys2Proof.Machine
end

section
/-! SUPPORT. The clocks of the part: idle steps (O2), tenure units (O38) and tenure expiries (O39). -/

namespace Sys2Proof.Machine

open Sys2Proof.Safety Sys2Proof.Claim

/-! No event but those of the timebase reads the counters, the draws or the outputs. -/

/-- The fields of the timebase, the draws and the outputs. -/
structure Clocks where
  sampleTimer : Nat
  atExpiry : Bool
  unitCounter : Nat
  draws : Nat
  out : Out

/-- The state with other clocks. -/
def State.withClocks (s : State) (k : Clocks) : State :=
  { s with sampleTimer := k.sampleTimer, atExpiry := k.atExpiry, unitCounter := k.unitCounter, draws := k.draws, out := k.out }

section

variable (s : State) (k : Clocks)

theorem State.withClocks_entry (e : EntryIx) : (s.withClocks k).entry e = s.entry e := rfl

theorem State.withClocks_ctx (m : Master) : (s.withClocks k).ctx m = s.ctx m := rfl

theorem State.withClocks_window (w : WindowIx) : (s.withClocks k).window w = s.window w := rfl

theorem State.notify_withClocks (n : Notice) : (s.withClocks k).notify n = (s.notify n).withClocks k := by
  unfold State.notify
  split_ifs with h1 h2 h3 h4 h5 h6 <;> simp_all [State.withClocks]

theorem State.attemptGrant_withClocks (e : EntryIx) : (s.withClocks k).attemptGrant e = (s.attemptGrant e).withClocks k := by
  unfold State.attemptGrant
  have hgrantable : (s.withClocks k).grantable e = s.grantable e := rfl
  rw [State.withClocks_entry, hgrantable]
  split
  · rfl
  · split_ifs <;> rfl

theorem State.updEntry_withClocks (e : EntryIx) (f : Entry → Entry) :
    (s.withClocks k).updEntry e f = (s.updEntry e f).withClocks k := rfl

theorem State.updCtx_withClocks (m : Master) (f : Context → Context) :
    (s.withClocks k).updCtx m f = (s.updCtx m f).withClocks k := rfl

theorem State.clearReservations_withClocks (p : Master → Bool) :
    (s.withClocks k).clearReservations p = (s.clearReservations p).withClocks k := rfl

theorem State.disarmGranule_withClocks (g : Granule) :
    (s.withClocks k).disarmGranule g = (s.disarmGranule g).withClocks k := rfl

theorem State.clearOwn_withClocks (m : Master) (g : Granule) : (s.withClocks k).clearOwn m g = (s.clearOwn m g).withClocks k := by
  unfold State.clearOwn
  have hctx : (s.withClocks k).ctx m = s.ctx m := rfl
  rw [hctx]
  split_ifs <;> rfl

theorem State.forgetHolder_withClocks (m : Master) (e : EntryIx) :
    (s.withClocks k).forgetHolder m e = (s.forgetHolder m e).withClocks k := rfl

theorem State.hazardToQueue_withClocks (e : EntryIx) (p : Master → Bool) :
    (s.withClocks k).hazardToQueue e p = (s.hazardToQueue e p).withClocks k := rfl

theorem State.drainExit_withClocks (e : EntryIx) : (s.withClocks k).drainExit e = (s.drainExit e).withClocks k := by
  unfold State.drainExit
  rw [State.withClocks_entry, State.updEntry_withClocks, State.notify_withClocks]
  split_ifs <;> rfl

theorem State.endHolding_withClocks (e : EntryIx) : (s.withClocks k).endHolding e = (s.endHolding e).withClocks k := by
  unfold State.endHolding
  rw [State.withClocks_entry]
  split
  · rfl
  · dsimp only
    rw [State.updEntry_withClocks, State.updCtx_withClocks, State.clearOwn_withClocks, State.forgetHolder_withClocks,
      State.hazardToQueue_withClocks]

theorem State.expireTenure_withClocks (e : EntryIx) : (s.withClocks k).expireTenure e = (s.expireTenure e).withClocks k := by
  unfold State.expireTenure State.settle
  rw [State.withClocks_entry]
  split
  · rfl
  · rw [State.endHolding_withClocks, State.notify_withClocks, State.attemptGrant_withClocks, State.drainExit_withClocks]

theorem State.enterQueued_withClocks (e : EntryIx) : (s.withClocks k).enterQueued e = (s.enterQueued e).withClocks k := by
  unfold State.enterQueued
  simp only [State.withClocks_entry, State.withClocks_ctx, State.updEntry_withClocks, State.clearReservations_withClocks,
    State.disarmGranule_withClocks, State.hazardToQueue_withClocks, State.notify_withClocks, State.attemptGrant_withClocks]
  rfl

theorem State.leaveQueued_withClocks (e : EntryIx) : (s.withClocks k).leaveQueued e = (s.leaveQueued e).withClocks k := by
  unfold State.leaveQueued
  rw [State.withClocks_entry, State.updEntry_withClocks, State.updEntry_withClocks, State.notify_withClocks]
  split_ifs <;> rfl

theorem State.processEntry_withClocks (e : EntryIx) : (s.withClocks k).processEntry e = (s.processEntry e).withClocks k := by
  unfold State.processEntry
  simp only [State.withClocks_entry, State.withClocks_window, State.updEntry_withClocks, State.enterQueued_withClocks,
    State.leaveQueued_withClocks]
  have hy : (s.entry e).sampled (s.window (s.entry e).granule.window) = sampledNow s e := rfl
  simp only [hy]
  cases (s.entry e).state with
  | free => rfl
  | watch => cases hhot : (sampledNow s e).hot <;> cases hret : (s.entry e).retires (sampledNow s e) <;> simp
  | queued => cases hhot : (sampledNow s e).hot <;> simp
  | drain => cases hhot : (sampledNow s e).hot <;> simp

end

/-- What every step of a fold leaves alone, the fold leaves alone. -/
theorem foldl_withClocks {f : State → EntryIx → State} (hf : ∀ s k e, f (s.withClocks k) e = (f s e).withClocks k)
    (l : List EntryIx) (s : State) (k : Clocks) : l.foldl f (s.withClocks k) = (l.foldl f s).withClocks k := by
  induction l generalizing s with
  | nil => rfl
  | cons e l ih => rw [List.foldl_cons, hf, ih, List.foldl_cons]

/-! Idle steps (O2). -/

theorem State.unit_congr {s t : State} (hdue : t.due = s.due) (hcount : t.countdown = s.countdown) : t.unit = s.unit := by
  rw [State.unit_eq, State.unit_eq, hdue, hcount]

theorem State.expire_congr {s t : State} (h : t.timed = s.timed) : t.expire = s.expire := by
  rw [State.expire_eq, State.expire_eq, h]

/-- A tenure unit commanded on a live part (log entry 4). -/
theorem exec_tenureUnit {s : State} (hlive : s.live = true) : exec .tenureUnit s = .next s.quiet.unit.took := by
  show execTenureUnit s = _
  unfold execTenureUnit
  dsimp only
  rw [if_pos (show s.quiet.live = true from hlive)]

/-- An event without outputs of its own leaves none when taken and looked at again. -/
theorem State.took_quiet {s : State} (h : s.out = Out.none) : { s.took with out := Out.none } = s := by
  apply State.ext
  case out => simp [h]
  all_goals simp

theorem step_of_idle {s : State} (h : s.pending = []) : step s = .next s.tick := by
  unfold step
  rw [h]

theorem State.unit_draws (s : State) : s.unit.draws = s.draws + 1 := by
  rw [State.unit_eq]
  exact foldl_keeps State.draws (fun a e => by simp) _ _

theorem State.live_unit (s : State) : s.unit.took.live = s.live := by
  rw [State.live, State.took_refclkRunning, State.took_inReset, State.unit_refclkRunning, State.unit_inReset, State.live]

theorem State.live_expire (s : State) : s.expire.took.live = s.live := by
  rw [State.live, State.took_refclkRunning, State.took_inReset, State.expire_refclkRunning, State.expire_inReset, State.live]

/-- A unit that falls together with an expiry leaves the records of the commanded one (log entry 7). -/
theorem State.unit_counted (s : State) : s.counted.drawn.unit = s.drawn.quiet.unit.withClocks
    { sampleTimer := s.sampleTimer + 1, atExpiry := false, unitCounter := 0, draws := s.draws + 2, out := Out.none } := by
  have hdue : s.counted.drawn.due = s.drawn.quiet.due := rfl
  have hcount : s.counted.drawn.countdown = s.drawn.quiet.countdown.withClocks
      { sampleTimer := s.sampleTimer + 1, atExpiry := false, unitCounter := 0, draws := s.draws + 2, out := Out.none } := rfl
  rw [State.unit_eq, State.unit_eq, hdue, hcount, foldl_withClocks fun s k e => s.expireTenure_withClocks k e]

/-- After a unit that falls together with it, an expiry starts from the same state as the commanded one. -/
theorem State.timed_unit_counted (s : State) : s.counted.drawn.unit.timed = s.drawn.quiet.unit.took.quiet.timed := by
  have hcounter := s.drawn.quiet.unit_unitCounter
  have hdraws : s.drawn.quiet.unit.draws = s.draws + 2 := s.drawn.quiet.unit_draws
  rw [State.unit_counted]
  generalize s.drawn.quiet.unit = u at *
  obtain ⟨⟩ := u
  subst hcounter hdraws
  rfl

/-- An expiry that falls together with a unit leaves the records of the commanded one (log entry 7). -/
theorem State.expire_counted (s : State) : s.counted.drawn.expire = s.drawn.quiet.expire.withClocks
    { sampleTimer := 0, atExpiry := true, unitCounter := s.unitCounter + 1, draws := s.draws + 1, out := Out.none } := by
  have htimed : s.counted.drawn.timed = s.drawn.quiet.timed.withClocks
      { sampleTimer := 0, atExpiry := true, unitCounter := s.unitCounter + 1, draws := s.draws + 1, out := Out.none } := rfl
  rw [State.expire_eq, State.expire_eq, htimed, foldl_withClocks fun s k e => s.processEntry_withClocks k e]

theorem State.unit_expire_counted (s : State) : s.counted.drawn.expire.unit = s.drawn.quiet.expire.took.quiet.unit := by
  obtain ⟨htimer, -, hat⟩ := s.drawn.quiet.expire_timebase
  have hdraws : s.drawn.quiet.expire.draws = s.draws + 1 := s.drawn.quiet.expire_draws
  have hout : s.drawn.quiet.expire.out = Out.none := s.drawn.quiet.expire_out
  rw [State.expire_counted]
  generalize s.drawn.quiet.expire = u at *
  obtain ⟨⟩ := u
  subst htimer hat hdraws hout
  exact State.unit_congr rfl rfl

/-- Settles O2: the step is the tick, and each of its branches is the commanded event of the same name. -/
theorem idleStepCountsRefclk : Obligations.IdleStepCountsRefclk := by
  intro s hpending
  refine ⟨fun hidle => ?_, fun hrun hreset => ?_⟩
  · have hlive : s.live = false := Bool.eq_false_iff.mpr fun h => by
      obtain ⟨h1, h2⟩ := s.live_iff.mp h
      simp [h1, h2] at hidle
    rw [step_of_idle hpending, State.tick_idle hlive]
    rfl
  have hlive : s.live = true := s.live_iff.mpr ⟨hrun, hreset⟩
  have htick := State.tick_live hlive
  rw [step_of_idle hpending, htick]
  refine ⟨fun hs hu => ?_, fun hs hu => ⟨_, exec_samplePeriodExpiry hlive, ?_⟩,
    fun hs hu => ⟨_, exec_tenureUnit hlive, ?_⟩, fun hs hu => ?_⟩
  · rw [if_neg (by omega), if_neg (by omega), if_neg (by omega)]
    rfl
  · rw [if_neg (by omega), if_pos hs, State.took_quiet (by rw [State.expire_out]; rfl), State.expire_congr (t := s.counted)]
    rfl
  · rw [if_neg (by omega), if_neg (by omega), if_pos hu, State.took_quiet (by rw [State.unit_out]; rfl),
      State.unit_congr (t := s.counted)] <;> rfl
  · rw [if_pos ⟨hs, hu⟩]
    have hlive' : s.drawn.live = true := hlive
    split_ifs
    · refine ⟨_, _, ?_, .inr ⟨exec_tenureUnit hlive', exec_samplePeriodExpiry (s.drawn.quiet.live_unit.trans hlive)⟩⟩
      rw [State.took_quiet (by rw [State.expire_out]; rfl), State.expire_congr (t := s.counted.drawn.unit)
        s.timed_unit_counted, State.drawn]
    · refine ⟨_, _, ?_, .inl ⟨exec_samplePeriodExpiry hlive', exec_tenureUnit (s.drawn.quiet.live_expire.trans hlive)⟩⟩
      rw [State.took_quiet (by rw [State.unit_out]; rfl), s.unit_expire_counted, State.drawn]

end Sys2Proof.Machine
end

section
/-! SUPPORT. Tenure expiries (O39), and tenure units as their expiries one after the other (O38). -/

namespace Sys2Proof.Machine

open Sys2Proof.Safety Sys2Proof.Claim

/-! Tenure expiries. -/

theorem State.expiring_iff (s : State) (e : EntryIx) : (s.entry e).expiring = true ↔ dueNow s e := by
  simp [Entry.expiring, dueNow, Option.isSome_iff_ne_none]

/-- A commanded tenure expiry of an entry with one unit left or less (log entry 5). -/
theorem exec_tenureExpiry {s : State} {e : EntryIx} (hlive : s.live = true) (hdue : dueNow s e) :
    exec (.tenureExpiry e) s = .next (s.quiet.expireTenure e).took := by
  show execTenureExpiry e s = _
  unfold execTenureExpiry
  dsimp only
  rw [if_pos (show (s.quiet.live && (s.quiet.entry e).expiring) = true from
    Bool.and_eq_true_iff.mpr ⟨hlive, (s.expiring_iff e).mpr hdue⟩)]

/-- A tenure expiry in the obligations' words. -/
theorem State.expireTenure_eq {s : State} {m : Master} {e : EntryIx} (hz : HazardMatches s)
    (hh : (s.entry e).holder = some m) (hserv : (s.entry e).serving = true) :
    s.expireTenure e = settled e ((letGo m e s).notify (.tenureExpired m e (s.entry e).granule.base)) := by
  unfold State.expireTenure
  rw [hh]
  dsimp only
  rw [State.endHolding_eq_letGo hz hh]
  refine State.settle_eq_settled ?_ ?_ <;> rw [State.notify_entry, letGo_entry, if_pos rfl]
  exact hserv

/-- Settles O39: the release and its notice come first, and the grant or the exit settles the entry. -/
theorem tenureExpiryReleasesHolder : Obligations.TenureExpiryReleasesHolder := by
  intro e s hlive
  refine ⟨fun hnot => ?_, fun m hz hdue hserv hh => ?_⟩
  · have hexpiring : (s.quiet.entry e).expiring = false := Bool.eq_false_iff.mpr fun h => hnot ((s.expiring_iff e).mp h)
    show execTenureExpiry e s = _
    unfold execTenureExpiry
    dsimp only
    rw [hexpiring, Bool.and_false, if_neg (by simp)]
    rfl
  · rw [exec_tenureExpiry hlive hdue, State.quiet_eq, State.expireTenure_eq (s := s.withOut Out.none) hz hh hserv, letGo_withOut,
      State.notify_withOut, settled_withOut]
    rfl

/-! The order of the expiries of a unit. -/

theorem insertByRank_perm (rank : EntryIx → Nat) (e : EntryIx) (l : List EntryIx) : (insertByRank rank e l).Perm (e :: l) := by
  induction l with
  | nil => exact List.Perm.refl _
  | cons x l ih =>
    unfold insertByRank
    split_ifs
    · exact List.Perm.refl _
    · exact (ih.cons x).trans (List.Perm.swap e x l)

theorem orderByRank_perm (rank : EntryIx → Nat) (l : List EntryIx) : (orderByRank rank l).Perm l := by
  have hfold : ∀ acc, (l.foldl (fun acc e => insertByRank rank e acc) acc).Perm (acc ++ l) := by
    induction l with
    | nil => simp
    | cons x l ih =>
      intro acc
      rw [List.foldl_cons]
      exact (ih _).trans (((insertByRank_perm rank x acc).append_right l).trans List.perm_middle.symm)
  exact hfold []

theorem State.nodup_due (s : State) : s.due.Nodup :=
  (orderByRank_perm _ _).nodup_iff.mpr ((List.nodup_finRange 32).filter _)

/-! An expiry reads no tenure. -/

/-- The entries of a list have no tenure left. -/
def State.zeroed (l : List EntryIx) (s : State) : State :=
  s.mapEntries fun i x => if i ∈ l then { x with tenure := 0 } else x

section

variable {l : List EntryIx} {e : EntryIx} (s : State)

theorem State.zeroed_entry (i : EntryIx) :
    (s.zeroed l).entry i = if i ∈ l then { s.entry i with tenure := 0 } else s.entry i := by
  simp [State.zeroed]

theorem State.zeroed_nil : s.zeroed [] = s := by
  apply State.ext
  case entry => intro i; rw [State.zeroed_entry, if_neg (by simp)]
  all_goals simp [State.zeroed]

theorem State.updEntry_zeroed (he : e ∉ l) (f : Entry → Entry) : (s.zeroed l).updEntry e f = (s.updEntry e f).zeroed l := by
  apply State.ext
  case entry =>
    intro i
    rw [State.entry_updEntry, State.zeroed_entry, State.zeroed_entry, State.entry_updEntry]
    split_ifs with h1 h2 h2
    · exact absurd (h1 ▸ h2) he
    all_goals rfl
  all_goals simp [State.zeroed]

theorem State.zeroed_entry_of_notMem (he : e ∉ l) : (s.zeroed l).entry e = s.entry e := by
  rw [State.zeroed_entry, if_neg he]

/-- The end of the holdership of the first entry leaves it without tenure. -/
theorem State.updEntry_zeroed_cons (he : e ∉ l) :
    (s.zeroed (e :: l)).updEntry e (fun x => { x with holder := none, tenure := 0 }) =
      (s.updEntry e fun x => { x with holder := none, tenure := 0 }).zeroed l := by
  apply State.ext
  case entry =>
    intro i
    rw [State.entry_updEntry, State.zeroed_entry, State.zeroed_entry, State.entry_updEntry]
    by_cases hi : i = e
    · subst hi
      simp [he]
    · by_cases hl : i ∈ l <;> simp [hi, hl]
  all_goals simp [State.zeroed]

theorem State.updCtx_zeroed (m : Master) (f : Context → Context) : (s.zeroed l).updCtx m f = (s.updCtx m f).zeroed l := by
  apply State.ext
  all_goals simp [State.zeroed]

theorem State.clearReservation_zeroed (m : Master) : (s.zeroed l).clearReservation m = (s.clearReservation m).zeroed l := by
  apply State.ext
  case flight => simp [State.zeroed, State.clearReservation_flight_eq]
  case released => simp [State.zeroed, State.clearReservation_released_eq]
  all_goals simp [State.zeroed]

theorem State.clearOwn_zeroed (m : Master) (g : Granule) : (s.zeroed l).clearOwn m g = (s.clearOwn m g).zeroed l := by
  unfold State.clearOwn
  have hctx : (s.zeroed l).ctx m = s.ctx m := by simp [State.zeroed]
  rw [hctx, State.clearReservation_zeroed]
  split_ifs
  · rfl
  · rfl

theorem State.forgetHolder_zeroed (m : Master) : (s.zeroed l).forgetHolder m e = (s.forgetHolder m e).zeroed l := by
  apply State.ext
  case flight => simp [State.zeroed, State.forgetHolder]
  case released => simp [State.zeroed, State.forgetHolder]
  all_goals simp [State.zeroed]

theorem State.notify_zeroed (n : Notice) : (s.zeroed l).notify n = (s.notify n).zeroed l := by
  obtain ⟨hnotices, hoverflow, hmark⟩ := State.notify_flags_congr (s := s) (v := s.zeroed l) (by simp [State.zeroed])
    (by simp [State.zeroed]) (by simp [State.zeroed]) (by simp [State.zeroed]) n
  apply State.ext
  case notices => rw [hnotices]; simp [State.zeroed]
  case overflow => rw [hoverflow]; simp [State.zeroed]
  case discardMark => rw [hmark]; simp [State.zeroed]
  all_goals simp [State.zeroed]

theorem State.zeroed_ctx (i : Master) : (s.zeroed l).ctx i = s.ctx i := by simp [State.zeroed]

theorem State.hazardToQueue_zeroed (he : e ∉ l) (p : Master → Bool) :
    (s.zeroed l).hazardToQueue e p = (s.hazardToQueue e p).zeroed l := by
  have hself := s.zeroed_entry_of_notMem he
  have hon : ∀ m g, (s.zeroed l).parkedOn m g = s.parkedOn m g := fun m g => by
    rw [State.parkedOn, State.parkedOn, State.zeroed_ctx]
  have hhazard : (s.zeroed l).hazard = s.hazard := by simp [State.zeroed]
  apply State.ext
  case ctx =>
    intro i
    rw [State.hazardToQueue_ctx, State.zeroed_ctx, State.zeroed_ctx, State.hazardToQueue_ctx, hhazard, hself, hon]
  case hazard =>
    rw [State.hazardToQueue_hazard, show ((s.hazardToQueue e p).zeroed l).hazard = (s.hazardToQueue e p).hazard by
      simp [State.zeroed], State.hazardToQueue_hazard]
    simp only [hhazard, hself, hon]
  case entry =>
    intro i
    simp only [State.hazardToQueue_entry, State.zeroed_entry, hhazard, hon, if_neg he]
    by_cases hi : i = e
    · simp [hi, he]
    · simp [hi]
  all_goals simp [State.zeroed]

theorem State.grant_zeroed (he : e ∉ l) (m : Master) : (s.zeroed l).grant e m = (s.grant e m).zeroed l := by
  have hwindow : ∀ w, (s.zeroed l).window w = s.window w := fun w => by simp [State.zeroed]
  apply State.ext
  case ctx => intro i; simp only [State.grant_ctx, State.zeroed_ctx]
  case entry =>
    intro i
    simp only [State.grant_entry, State.zeroed_entry, hwindow]
    by_cases hi : i = e
    · simp [hi, he]
    · simp [hi]
  case released => simp [State.grant, State.zeroed]
  all_goals simp [State.zeroed, State.grant]

theorem State.attemptGrant_zeroed (he : e ∉ l) : (s.zeroed l).attemptGrant e = (s.attemptGrant e).zeroed l := by
  have hgrantable : (s.zeroed l).grantable e = s.grantable e := by
    rw [State.grantable, State.grantable, State.zeroed_entry_of_notMem s he,
      State.covered_congr (t := s) (by simp [State.zeroed]) (by simp [State.zeroed])]
  unfold State.attemptGrant
  rw [State.zeroed_entry_of_notMem s he, hgrantable]
  split
  · rfl
  · rw [State.grant_zeroed s he]
    split_ifs <;> rfl

theorem State.drainExit_zeroed (he : e ∉ l) : (s.zeroed l).drainExit e = (s.drainExit e).zeroed l := by
  unfold State.drainExit
  rw [State.zeroed_entry_of_notMem s he, State.updEntry_zeroed s he, State.notify_zeroed]
  split_ifs <;> rfl

/-- The expiry of the first entry reads the tenures of none. -/
theorem State.expireTenure_zeroed (he : e ∉ l) (hh : (s.entry e).holder.isSome) :
    (s.zeroed (e :: l)).expireTenure e = (s.expireTenure e).zeroed l := by
  obtain ⟨m, hm⟩ := Option.isSome_iff_exists.mp hh
  have hentry : (s.zeroed (e :: l)).entry e = { s.entry e with tenure := 0 } := by rw [State.zeroed_entry, if_pos (by simp)]
  unfold State.expireTenure State.settle State.endHolding
  rw [hentry]
  dsimp only
  rw [hm]
  dsimp only
  rw [State.updEntry_zeroed_cons s he, State.updCtx_zeroed, State.clearOwn_zeroed, State.forgetHolder_zeroed,
    State.hazardToQueue_zeroed _ he, State.notify_zeroed, State.attemptGrant_zeroed _ he, State.drainExit_zeroed _ he]

end

/-- The expiries of a list of entries read none of their tenures. -/
theorem State.expiries_zeroed (l : List EntryIx) (s : State) (hnodup : l.Nodup) (hh : ∀ e ∈ l, (s.entry e).holder.isSome) :
    l.foldl State.expireTenure (s.zeroed l) = l.foldl State.expireTenure s := by
  induction l generalizing s with
  | nil => rw [List.foldl_nil, List.foldl_nil, State.zeroed_nil]
  | cons e l ih =>
    obtain ⟨he, hnodup⟩ := List.nodup_cons.mp hnodup
    rw [List.foldl_cons, List.foldl_cons, State.expireTenure_zeroed s he (hh e (by simp)), ih _ hnodup fun i hi => ?_]
    rw [State.expireTenure_entry_of_ne e fun h : i = e => he (h ▸ hi)]
    exact hh i (by simp [hi])

/-- An expiry does not read the outputs. -/
theorem State.expireTenure_withOut (s : State) (o : Out) (e : EntryIx) :
    (s.withOut o).expireTenure e = (s.expireTenure e).withOut o := by
  have h := s.expireTenure_withClocks
    { sampleTimer := s.sampleTimer, atExpiry := s.atExpiry, unitCounter := s.unitCounter, draws := s.draws, out := o } e
  refine Eq.trans (Eq.trans rfl h) ?_
  apply State.ext
  all_goals simp [State.withClocks]

theorem State.expiries_withOut (l : List EntryIx) (s : State) (o : Out) :
    l.foldl State.expireTenure (s.withOut o) = (l.foldl State.expireTenure s).withOut o := by
  induction l generalizing s with
  | nil => rfl
  | cons e l ih => rw [List.foldl_cons, State.expireTenure_withOut, ih, List.foldl_cons]

/-- The commanded expiries of a list of due entries are the expiries of a unit (log entry 5). -/
theorem expiriesTaken_foldl (l : List EntryIx) (s : State) (hlive : s.live = true) (hnodup : l.Nodup)
    (hdue : ∀ e ∈ l, dueNow s e) : ∃ o, expiriesTaken l s ((l.foldl State.expireTenure s).withOut o) := by
  induction l generalizing s with
  | nil => exact ⟨s.out, rfl⟩
  | cons e l ih =>
    obtain ⟨he, hnodup⟩ := List.nodup_cons.mp hnodup
    have hexec : exec (.tenureExpiry e) s = .next ((s.expireTenure e).withOut (moved none none)) := by
      rw [exec_tenureExpiry hlive (hdue e (by simp)), State.quiet_eq, State.expireTenure_withOut]
      rfl
    have hlive' : ((s.expireTenure e).withOut (moved none none)).live = true := by
      rw [State.live, State.withOut_refclkRunning, State.withOut_inReset, State.expireTenure_refclkRunning,
        State.expireTenure_inReset]
      exact hlive
    have hdue' : ∀ i ∈ l, dueNow ((s.expireTenure e).withOut (moved none none)) i := fun i hi => by
      rw [dueNow, State.withOut_entry, State.expireTenure_entry_of_ne e fun h : i = e => he (h ▸ hi)]
      exact hdue i (by simp [hi])
    obtain ⟨o, ho⟩ := ih _ hlive' hnodup hdue'
    rw [State.expiries_withOut] at ho
    exact ⟨o, _, hexec, ho⟩

/-- The entries with a holder count down, but for those that expire (R96). -/
def State.counting (s : State) : State :=
  s.mapEntries fun _ x => if x.holder.isSome ∧ 1 < x.tenure then { x with tenure := x.tenure - 1 } else x

theorem State.counting_entry (s : State) (i : EntryIx) : s.counting.entry i =
    if (s.entry i).holder.isSome ∧ 1 < (s.entry i).tenure then { s.entry i with tenure := (s.entry i).tenure - 1 }
    else s.entry i := by
  simp [State.counting]

/-- The countdown of a unit takes the due entries to 0 and the others down by one. -/
theorem State.countdown_eq (s : State) : s.countdown = (s.counting.zeroed s.due).withClocks
    { sampleTimer := s.sampleTimer, atExpiry := s.atExpiry, unitCounter := 0, draws := s.draws + 1, out := s.out } := by
  apply State.ext
  case entry =>
    intro i
    rw [State.countdown_entry, State.withClocks_entry, State.zeroed_entry, State.counting_entry]
    simp only [State.mem_due, dueNow, Option.isSome_iff_ne_none]
    by_cases hh : (s.entry i).holder ≠ none
    · by_cases ht : (s.entry i).tenure ≤ 1
      · have h0 : (s.entry i).tenure - 1 = 0 := by omega
        simp [hh, ht, not_lt.mpr ht, h0]
      · simp [hh, ht, not_le.mp ht]
    · simp [hh]
  all_goals simp [State.countdown, State.withClocks, State.zeroed, State.counting]

/-- A unit is its countdown and, on the entries as they count, the expiries (R96). -/
theorem State.quiet_unit_eq (s : State) : s.quiet.unit = (s.due.foldl State.expireTenure s.counting).withClocks
    { sampleTimer := s.sampleTimer, atExpiry := s.atExpiry, unitCounter := 0, draws := s.draws + 1, out := Out.none } := by
  have hholders : ∀ e ∈ s.due, (s.counting.entry e).holder.isSome := fun e he => by
    obtain ⟨hh, ht⟩ := State.mem_due.mp he
    rw [State.counting_entry, if_neg fun h => by omega]
    exact Option.isSome_iff_ne_none.mpr hh
  have hcount : s.quiet.countdown = (s.counting.zeroed s.due).withClocks
      { sampleTimer := s.sampleTimer, atExpiry := s.atExpiry, unitCounter := 0, draws := s.draws + 1, out := Out.none } := by
    rw [show s.quiet.countdown = s.countdown.withOut Out.none from rfl, State.countdown_eq]
    generalize s.counting.zeroed s.due = x
    rfl
  rw [State.unit_eq, show s.quiet.due = s.due from rfl, hcount, foldl_withClocks fun s k e => s.expireTenure_withClocks k e,
    State.expiries_zeroed s.due s.counting s.nodup_due hholders]

/-- Settles O38: the unit counts down, and its expiries are the commanded ones in the order of the free value. -/
theorem tenureUnitCountsDown : Obligations.TenureUnitCountsDown := by
  intro s hlive
  refine ⟨fun hnone => ⟨_, exec_tenureUnit hlive, ?_, fun e => ?_⟩, s.due, ?_⟩
  · have hempty : s.quiet.due = [] := List.eq_nil_iff_forall_not_mem.mpr fun e he => hnone e (State.mem_due.mp he)
    rw [State.unit_eq, hempty, List.foldl_nil]
    apply State.ext
    case out => simp [State.countdown, moved, Out.none]
    all_goals simp [State.countdown]
  · have hempty : s.quiet.due = [] := List.eq_nil_iff_forall_not_mem.mpr fun e he => hnone e (State.mem_due.mp he)
    rw [State.took_entry, State.unit_eq, hempty]
    exact s.quiet.countdown_entry e
  · have hdue : ∀ e ∈ s.due, dueNow s.counting e := fun e he => by
      obtain ⟨hh, ht⟩ := State.mem_due.mp he
      rw [dueNow, State.counting_entry, if_neg fun h => by omega]
      exact ⟨hh, ht⟩
    have hlive' : s.counting.live = true := by simpa [State.live, State.counting] using hlive
    obtain ⟨o, ho⟩ := expiriesTaken_foldl s.due s.counting hlive' s.nodup_due hdue
    refine ⟨_, s.nodup_due, fun e => State.mem_due, ho, ?_⟩
    rw [exec_tenureUnit hlive, State.quiet_unit_eq]
    have htimer : (s.due.foldl State.expireTenure s.counting).sampleTimer = s.sampleTimer :=
      (foldl_keeps State.sampleTimer (fun a e => State.expireTenure_sampleTimer a e) _ _).trans (by simp [State.counting])
    have hat : (s.due.foldl State.expireTenure s.counting).atExpiry = s.atExpiry :=
      (foldl_keeps State.atExpiry (fun a e => State.expireTenure_atExpiry a e) _ _).trans (by simp [State.counting])
    generalize s.due.foldl State.expireTenure s.counting = v at *
    rw [← htimer, ← hat]
    rfl

end Sys2Proof.Machine
end

section
/-! SUPPORT. The queue of commands (O1), ranges (O24), pins (O40), notices (O53), reset (O58), the laws as they read (O59) and
the codes of the link (O60). -/

namespace Sys2Proof.Machine

open Sys2Proof.Safety Sys2Proof.Claim

/-- Settles O1: the queue's front is what a step matches on. -/
theorem stepRunsFrontCommand : Obligations.StepRunsFrontCommand := by
  intro c rest s h
  unfold step
  rw [h]

/-- Settles O24: two stretches of bytes share one exactly when the larger of their starts lies before both ends. -/
theorem rangeIncludesSharedByte : Obligations.RangeIncludesSharedByte := by
  intro r base size hsize hr hle
  simp only [GranuleRange.includes, Bool.and_eq_true, decide_eq_true_eq]
  constructor
  · rintro ⟨h1, h2⟩
    exact ⟨max base.toNat r.first.toNat, by omega, by omega, by omega⟩
  · rintro ⟨n, ⟨h1, h2⟩, h3, h4⟩
    omega

theorem Notice.exists_of_isUntracked {n : Notice} (h : n.isUntracked = true) : ∃ g, n = .untracked g := by
  cases n with
  | untracked g => exact ⟨g, rfl⟩
  | _ => cases h

/-- Settles O53: the branches of a notice's hand-over. -/
theorem noticeQueueRules : Obligations.NoticeQueueRules := by
  intro n s
  unfold State.notify Config.noticeMax
  refine ⟨fun h => ?_, fun g h hn hwaits => ?_, fun hmask hfresh => ⟨fun hroom => ?_, fun hfull => ?_⟩⟩
  · simp [h]
  · have hany : (n.isUntracked && s.notices.any Notice.isUntracked) = true := by
      rw [hn]
      exact Bool.and_eq_true_iff.mpr ⟨rfl, List.any_eq_true.mpr ⟨_, hwaits, rfl⟩⟩
    rw [if_pos hany, ite_self]
  all_goals
    have hnone : (n.isUntracked && s.notices.any Notice.isUntracked) = false := Bool.eq_false_iff.mpr fun h => by
      obtain ⟨hu, hany⟩ := Bool.and_eq_true_iff.mp h
      obtain ⟨x, hx, hxu⟩ := List.any_eq_true.mp hany
      obtain ⟨g, rfl⟩ := Notice.exists_of_isUntracked hxu
      exact hfresh hu g hx
    rw [hmask, hnone]
  · exact if_pos hroom
  · exact if_neg (not_lt.mpr hfull)

/-- Settles O60: the table of codes, read both ways. -/
theorem codesAndAddressesDecode : Obligations.CodesAndAddressesDecode := by
  have hcode : ∀ b : Byte, (decodeCommand b).all fun c => decide (b = commandCode c) := by decide
  have haddress : ∀ a : Byte, (decodeRegister a).all fun r => decide (a = registerAddress r) := by decide
  refine ⟨fun b c => ⟨fun h => ?_, ?_⟩, fun a r => ⟨fun h => ?_, ?_⟩, rfl, rfl, rfl, rfl, rfl, rfl, rfl, rfl, rfl, rfl, ?_⟩
  · have := hcode b
    rw [h] at this
    exact of_decide_eq_true this
  · rintro rfl
    cases c <;> rfl
  · have := haddress a
    rw [h] at this
    exact of_decide_eq_true this
  · rintro rfl
    cases r with
    | id => rfl
    | control => rfl
    | base w => revert w; decide
    | shape w => revert w; decide
    | limits w => revert w; decide
    | enable w => revert w; decide
  · decide

/-- Settles O58: with no record at all every law holds. -/
theorem resetMeetsInvariants : Obligations.ResetMeetsInvariants := by
  have hentry : ∀ e, State.reset.entry e = Entry.free := fun e => by simp [State.reset, State.entry]
  have htenure : ∀ e, (State.reset.entry e).TenureOk := fun e => by
    rw [hentry]; exact ⟨fun _ => rfl, fun h => absurd rfl h⟩
  have hdrain : ∀ e, (State.reset.entry e).DrainOk := fun e => by
    rw [hentry]; exact fun h => by cases h
  have hsame : SameRecords State.reset.hardReset State.reset := by constructor <;> rfl
  have hagree : Agree State.reset := (hsame.kept State.reset.kept_hardReset.agree).agree
  have hwaits : ∀ e, State.reset.WaitOk e := fun e h => absurd (hentry e ▸ rfl) h
  have hhazards : State.reset.HazardsOk := fun m hm => by simp [State.reset] at hm
  have htags : ∀ x, State.reset.tagCount x ≤ 1 := fun x => by
    simp [State.tagCount, State.reset, State.ctx, Context.empty]
  have hfilters : FiltersBounded State.reset := fun e => by
    rw [hentry]; exact ⟨by decide, by decide, by decide⟩
  have htimebase : TimebaseBounded State.reset := ⟨by decide, by decide, fun h => absurd h (by decide)⟩
  have hreplies : RepliesOwn State.reset := fun r hr => by simp [State.reset] at hr
  have huntracked : UntrackedOnce State.reset := by simp [UntrackedOnce, State.reset]
  have hframe : FrameMatches State.reset := by simp [frameMatches_iff, Link.Framed, State.reset, Link.reset]
  have hpin : ResetFollowsPin State.reset := ⟨fun h => absurd h (by decide), fun h => absurd h (by decide)⟩
  exact ⟨(coherent_iff_entries _).mpr ⟨hagree, htenure, hdrain⟩, (waitersCovered_iff _).mpr ⟨hwaits, hhazards⟩,
    (tagsDistinct_iff _).mpr htags, ⟨by decide, by decide, by decide⟩, hfilters, htimebase, hreplies, huntracked, hframe,
    headStays_of_phase (by decide), fun h => absurd h (by decide), hpin⟩

/-- Settles O59: the laws, read off one after the other. -/
theorem coherentMeansLaws : Obligations.CoherentMeansLaws := by
  intro s hs
  obtain ⟨h, -, -⟩ := (coherent_iff_entries s).mp hs
  have hlength : ∀ l : List Master, l.Nodup → l.length ≤ 16 := fun l hl => by
    simpa using hl.length_le_card
  have hactive : ∀ w, s.active w = true → s.mon = true ∧ (s.window w).enable = true := fun w hw => by
    simpa [State.active] using hw
  refine ⟨fun m g hg => hactive _ (h.reserved m g hg), fun e f m he hf => ?_, fun e m hm => ?_, fun e f m he hf => ?_,
    hlength _ h.hazardNodup, fun e => hlength _ (h.queueNodup e), fun e m hserv hne hres => ?_, fun e hidle => ?_⟩
  · obtain ⟨p, hp, hr⟩ := (h.queued e m).mp he
    obtain ⟨q, hq, hr'⟩ := (h.queued f m).mp hf
    rw [hp] at hq
    obtain rfl := Option.some.inj hq
    exact ParkReason.queue.inj (hr.symm.trans hr')
  · obtain ⟨p, hp, hr⟩ := (h.queued e m).mp hm
    refine ⟨fun hz => ?_, fun i hi => ?_⟩
    · obtain ⟨q, hq, hr'⟩ := (h.hazarded m).mp hz
      rw [hp] at hq
      obtain rfl := Option.some.inj hq
      rw [hr] at hr'
      cases hr'
    · have := (h.waiters m i p ((h.holders i m).mp hi) hp).1
      rw [hr] at this
      cases this
  · have h1 := (h.holders e m).mp he
    rw [(h.holders f m).mp hf] at h1
    exact (Option.some.inj h1).symm
  · exact hne (h.law4 e m ((Entry.serving_iff _).mpr hserv) hres)
  · obtain ⟨hfree, hwatch, -⟩ := h.law10 e
    obtain hf | hw := hidle
    · rw [hfree hf]; exact ⟨rfl, rfl⟩
    · exact ⟨(hwatch hw).1, (hwatch hw).2.1⟩

end Sys2Proof.Machine
end

section
/-! SUPPORT. The pins (O40), the asserted reset (O4) and the stopped clock (O3). -/

namespace Sys2Proof.Machine

open Sys2Proof.Safety Sys2Proof.Claim

theorem Link.outByte_command {k : Link} (h : k.phase = .command) : k.outByte = k.status := by simp [Link.outByte, h]

theorem Link.outByte_ret {k : Link} (h : k.phase = .ret) : k.outByte = k.shiftOut.headD 0#8 := by simp [Link.outByte, h]

/-- Outside the command byte and the returned bytes MSO carries zero. -/
theorem Link.outByte_of_ne {k : Link} (hcommand : k.phase ≠ .command) (hret : k.phase ≠ .ret) : k.outByte = 0#8 := by
  unfold Link.outByte
  split
  next h => exact absurd h hcommand
  next h => exact absurd h hret
  next => rfl

/-- A release of RESET_N that a REFCLK edge sees ends the reset. -/
theorem exec_resetRelease_seen {s : State} (hrun : s.refclkRunning = true) (hreset : s.inReset = true) :
    exec .resetRelease s = .next { s with resetLow := false, inReset := false, out := moved none none } := by
  show execResetRelease s = _
  unfold execResetRelease
  dsimp only
  rw [if_pos (by simp [hrun, hreset])]
  simp only [State.seeRelease, Bool.and_false]
  rfl

/-- Otherwise it raises no more than the pin. -/
theorem exec_resetRelease_unseen {s : State} (h : s.refclkRunning = false ∨ s.inReset = false) :
    exec .resetRelease s = .next { s with resetLow := false, out := Out.none } := by
  show execResetRelease s = _
  unfold execResetRelease
  dsimp only
  rw [if_neg (by rw [Bool.and_eq_true, not_and_or, Bool.not_eq_true, Bool.not_eq_true]; exact h)]
  rfl

/-- Settles O40: the events of the pins, each by its definition. -/
theorem pinEventsTaken : Obligations.PinEventsTaken := by
  intro s
  refine ⟨⟨_, rfl, rfl, rfl, rfl, rfl, rfl, rfl, rfl, rfl, rfl, rfl, rfl, rfl, fun m => ?_, fun m t => ?_, fun e => ?_, fun w => ?_⟩,
    fun d far head offered m t ready h => ?_, ?_, fun h => ?_, exec_resetRelease_seen, exec_resetRelease_unseen, rfl, rfl⟩
  · simp [State.hardReset, State.reset, State.ctx, State.took, Context.empty]
  · simp [State.hardReset, State.reset, State.nomonMark, State.took]
  · simp [State.hardReset, State.reset, State.entry, State.took, Entry.free]
  · have hw : s.hardReset.took.window w = Window.reset := by simp [State.hardReset, State.reset, State.window, State.took]
    rw [hw]
    decide
  · obtain ⟨hfar, hnear⟩ := State.presented_in_reset h head offered
    exact ⟨by simp [State.requestReady, h], by simp [State.withdrawReady, h], by simp [State.farResponseReady, h], hfar, hnear⟩
  · simp [State.msoDriven]
  · exact Link.outByte_of_ne (by simp [h]) (by simp [h])

/-! What a frame leaves alone while the link takes no bytes (R152, R154). -/

/-- Only the link, but for REFUSED, and the outputs of the step moved. -/
def State.linkMoved (s u : State) : Prop := u = { s with link := u.link, out := u.out } ∧ u.link.refused = s.link.refused

theorem State.linkMoved_self (s : State) (o : Out) : s.linkMoved { s with out := o } := ⟨rfl, rfl⟩

section

variable {s t : State} (h : s.linkMoved t)
include h

theorem State.linkMoved.with_out (o : Out) : s.linkMoved { t with out := o } := by
  obtain ⟨ht, hrefused⟩ := h
  exact ⟨by rw [ht], hrefused⟩

theorem State.linkMoved.updLink {f : Link → Link} (hf : (f t.link).refused = t.link.refused) : s.linkMoved (t.updLink f) := by
  obtain ⟨ht, hrefused⟩ := h
  exact ⟨by rw [ht]; rfl, hf.trans hrefused⟩

theorem State.linkMoved.mcsRise : s.linkMoved t.mcsRise := State.linkMoved.updLink h (f := fun k => { k with phase := .idle, mcsLow := false }) rfl

theorem State.linkMoved.mcsFall : s.linkMoved t.mcsFall := by
  unfold State.mcsFall
  split_ifs
  · exact h
  · exact State.linkMoved.updLink h rfl
  · exact State.linkMoved.updLink h rfl

/-- A byte acts on nothing while REFCLK is stopped. -/
theorem State.linkMoved.linkByte (hrun : s.refclkRunning = false) (b : Byte) : s.linkMoved (t.linkByte b) := by
  by_cases hidle : t.link.phase = .idle
  · rw [State.linkByte_idle hidle]; exact h
  · have hstopped : t.refclkRunning = false := by rw [h.1]; exact hrun
    rw [State.linkByte_stopped hidle hstopped]
    exact State.linkMoved.updLink (State.linkMoved.updLink h rfl) rfl

end

/-- A frame sends nothing on the bus channels. -/
theorem State.frameCommand_out (s : State) (bytes : List Byte) (f : Frame) :
    (s.frameCommand bytes f).out.farRequest = none ∧ (s.frameCommand bytes f).out.nearReply = none := by
  have hout : (s.quiet.runFrame bytes f).out = Out.none :=
    State.runFrame_keeps (P := fun t => t.out = Out.none) (fun t b h => (t.linkByte_out b).trans h) (fun t h => h)
      (fun t _ h => t.mcsFall_out.trans h) rfl bytes f
  unfold State.frameCommand
  dsimp only
  split_ifs
  · rw [hout]; exact ⟨rfl, rfl⟩
  · simp only [State.took, hout]; exact ⟨rfl, rfl⟩

theorem execShortFrame_out {s u : State} {bits : Fin 8} (h : execShortFrame bits s = .next u) :
    u.out.farRequest = none ∧ u.out.nearReply = none := by
  have hout : s.quiet.mcsRise.mcsFall.out = Out.none := by simp
  unfold execShortFrame at h
  dsimp only at h
  split_ifs at h
  · cases h
    rw [State.mcsRise_out, hout]
    exact ⟨rfl, rfl⟩
  · cases h
    simp only [State.took, State.mcsRise_out, State.updLink_out, hout]
    exact ⟨rfl, rfl⟩

/-! The bytes of a frame, one after the other. -/

section

variable {s : State}

/-- In IGNORE a byte moves nothing more than its place, REFCLK running or not. -/
theorem State.linkByte_ignored (h : s.link.phase = .ignore) (b : Byte) : s.linkByte b = s.shifted := by
  cases hrun : s.refclkRunning with
  | true => exact State.linkByte_ignore h hrun
  | false =>
    rw [State.linkByte_stopped (by simp [h]) hrun]
    simp only [State.shifted, State.updLink, ← h]

theorem State.clockBytes_succ (frame : List Byte) (n : Nat) :
    s.clockBytes frame (n + 1) = (s.linkByte (frame.getD s.link.done 0#8)).clockBytes frame n := rfl

theorem State.clockBytes_add (frame : List Byte) (m n : Nat) :
    s.clockBytes frame (m + n) = (s.clockBytes frame m).clockBytes frame n := by
  induction m generalizing s with
  | zero => rw [Nat.zero_add]; rfl
  | succ m ih => rw [Nat.succ_add, State.clockBytes_succ, ih, State.clockBytes_succ]

/-- In IGNORE the rest of the frame returns zeros. -/
theorem State.clockBytes_ignore (h : s.link.phase = .ignore) (frame : List Byte) (n : Nat) :
    s.clockBytes frame n = s.updLink fun k => { k with mso := k.mso ++ List.replicate n 0#8, done := k.done + n } := by
  induction n generalizing s with
  | zero => simp [State.clockBytes, State.updLink]
  | succ n ih =>
    have hshifted : s.shifted.link.phase = .ignore := h
    rw [State.clockBytes_succ, State.linkByte_ignored h, ih hshifted]
    have hout : s.link.outByte = 0#8 := Link.outByte_of_ne (by simp [h]) (by simp [h])
    simp [State.shifted, State.updLink, hout, List.replicate_succ, Nat.add_assoc, Nat.add_comm 1 n]

end

/-- The link right after the fall of MCS_N (R143, R144). -/
def Link.opened (s : State) : Link :=
  { phase := .command, command := none, done := 0, argument := 0#8, dataIn := [], shiftOut := [], status := s.statusByte
    headTaken := false, refused := s.link.refused, mcsLow := true, mso := [], msoBits := [] }

/-- Outside reset MCS_N rises, if it was low, and falls, and a frame begins. -/
theorem State.mcsRise_mcsFall {s : State} (h : s.inReset = false) : s.mcsRise.mcsFall = s.updLink fun _ => Link.opened s := by
  have hlow : s.mcsRise.link.mcsLow = false := rfl
  unfold State.mcsFall
  rw [hlow, if_neg (by simp), if_neg (by simp [h])]
  rfl

theorem statusBits_toNat : ∀ a r o m : Bool,
    (0x8#4 ++ (BitVec.ofBool a ++ BitVec.ofBool r ++ BitVec.ofBool o ++ BitVec.ofBool m)).toNat =
      128 + 8 * a.toNat + 4 * r.toNat + 2 * o.toNat + m.toNat := by
  decide

/-- The status byte as its layout gives it. -/
theorem State.statusByte_toNat (s : State) : s.statusByte.toNat = statusLayout s := by
  have halert : s.alert.toNat = if s.notices ≠ [] ∨ s.overflow = true then 1 else 0 := by
    unfold State.alert
    cases s.notices <;> cases s.overflow <;> simp
  rw [State.statusByte, State.flagBits, statusBits_toNat, halert]
  rfl

/-! The asserted reset and the stopped clock. -/

section

variable {s : State} (hlive : s.live = false)
include hlive

theorem State.offer_of_not_live (r : Request) (far : Bool) : s.offer r far = s.quiet := by
  obtain ⟨hrun, hready, -⟩ | ⟨-, h⟩ := s.offer_cases r far
  · rw [s.live_iff.mpr ⟨hrun, ((s.requestReady_iff _ _).mp hready).1⟩] at hlive
    cases hlive
  · exact h

theorem exec_withdraw_of_not_live (m : Master) (t : Tag) : exec (.withdraw m t) s = .next s.quiet := by
  have hready : ¬ (s.refclkRunning && s.withdrawReady m t) = true := fun h => by
    obtain ⟨hrun, hready⟩ := Bool.and_eq_true_iff.mp h
    rw [s.live_iff.mpr ⟨hrun, ((s.withdrawReady_iff m t).mp hready).1⟩] at hlive
    cases hlive
  exact if_neg hready

/-- A far response is discarded in reset (R131), and waits while REFCLK is stopped. -/
theorem exec_farResponse_of_not_live (m : Master) (t : Tag) (st : FarStatus) (d : Data) (ready : Bool) :
    exec (.farResponse m t st d ready) s = .next s.quiet ∨ exec (.farResponse m t st d ready) s = .next s.quiet.took := by
  show execFarResponse m t st d ready s = _ ∨ execFarResponse m t st d ready s = _
  unfold execFarResponse
  dsimp only
  split_ifs with hready hreset
  · exact .inr rfl
  · rw [s.live_iff.mpr ⟨(Bool.and_eq_true_iff.mp hready).1, by simpa using hreset⟩] at hlive
    cases hlive
  · exact .inl rfl

/-- While REFCLK is stopped or RESET_N is asserted, only pins and frames move anything. -/
theorem exec_of_not_live {c : Instr} (hhard : c ≠ .hardReset) (hrelease : c ≠ .resetRelease) (hstops : c ≠ .refclkStops)
    (hruns : c ≠ .refclkRunsAgain) :
    (frameOf c = none ∧ (exec c s = .next s.quiet ∨ exec c s = .next s.quiet.took)) ∨
      (∃ bytes f, frameOf c = some f ∧ exec c s = .next (s.frameCommand bytes f)) ∨ ∃ bits, c = .shortFrame bits := by
  have hquiet : ¬ s.quiet.live = true := by rw [show s.quiet.live = false from hlive]; exact Bool.false_ne_true
  cases hf : frameOf c with
  | some f => exact .inr (.inl ⟨_, f, rfl, exec_of_frameOf hf s⟩)
  | none =>
    cases hr : requestOf c with
    | some x => exact .inl ⟨rfl, .inl (by rw [exec_of_requestOf (r := x.1) (far := x.2) hr, State.offer_of_not_live hlive])⟩
    | none =>
      cases c with
      | withdraw m t => exact .inl ⟨rfl, .inl (exec_withdraw_of_not_live hlive m t)⟩
      | farResponse m t st d ready => exact .inl ⟨rfl, exec_farResponse_of_not_live hlive m t st d ready⟩
      | replyQueueSend | releasedReadForwarding | samplePeriodExpiry | tenureUnit => exact .inl ⟨rfl, .inl (if_neg hquiet)⟩
      | tenureExpiry e => exact .inl ⟨rfl, .inl (if_neg fun h => hquiet (Bool.and_eq_true_iff.mp h).1)⟩
      | hardReset => exact absurd rfl hhard
      | resetRelease => exact absurd rfl hrelease
      | refclkStops => exact absurd rfl hstops
      | refclkRunsAgain => exact absurd rfl hruns
      | shortFrame bits => exact .inr (.inr ⟨bits, rfl⟩)
      | readRegister | writeRegister | writeControl | enableSet | enableClear | readEntry | readContext | takeNotice
      | readStatus | clearAll | releaseHolder | unknownCommand => cases hf
      | linkedRead | conditionalWrite | plainRead | plainWrite => cases hr

end

/-- Only MCS_N and the outputs of the step moved. -/
def State.mcsMoved (s u : State) : Prop := u = { s with link := { s.link with mcsLow := u.link.mcsLow }, out := u.out }

theorem State.mcsMoved_self (s : State) : s.mcsMoved s := rfl

section

variable {s t : State} (h : s.mcsMoved t)
include h

theorem State.mcsMoved.with_out (o : Out) : s.mcsMoved { t with out := o } := by
  unfold State.mcsMoved at *
  rw [h]

theorem State.mcsMoved.with_mcs (low : Bool) : s.mcsMoved (t.updLink fun k => { k with mcsLow := low }) := by
  unfold State.mcsMoved at *
  rw [h]
  rfl

theorem State.mcsMoved.idle (hidle : s.link.phase = .idle) : t.link.phase = .idle := by rw [h]; exact hidle

theorem State.mcsMoved.mcsRise (hidle : s.link.phase = .idle) : s.mcsMoved t.mcsRise := by
  have hrise : t.mcsRise = t.updLink fun k => { k with mcsLow := false } := by
    simp only [State.mcsRise, State.updLink, ← State.mcsMoved.idle h hidle]
  rw [hrise]
  exact State.mcsMoved.with_mcs h false

/-- In reset the fall of MCS_N begins no frame (R152). -/
theorem State.mcsMoved.mcsFall (hreset : s.inReset = true) : s.mcsMoved t.mcsFall := by
  have hin : t.inReset = true := by rw [h]; exact hreset
  unfold State.mcsFall
  rw [if_pos hin]
  split_ifs
  · exact h
  · exact State.mcsMoved.with_mcs h true

end

theorem State.mcsMoved_frameCommand {s : State} (hreset : s.inReset = true) (hidle : s.link.phase = .idle)
    (bytes : List Byte) (f : Frame) : s.mcsMoved (s.frameCommand bytes f) :=
  State.frameCommand_keeps (P := s.mcsMoved) (fun _ o h => State.mcsMoved.with_out h o)
    (fun _ _ h => by rw [State.linkByte_idle (State.mcsMoved.idle h hidle)]; exact h)
    (fun _ h => State.mcsMoved.mcsRise h hidle) (fun _ _ h => State.mcsMoved.mcsFall h hreset) (State.mcsMoved_self s) bytes f

theorem exec_shortFrame_reset {s : State} (hreset : s.inReset = true) (bits : Fin 8) :
    exec (.shortFrame bits) s = .next s.quiet.mcsRise.mcsFall.mcsRise := if_pos hreset

/-- Settles O4: no event but the reset events and the pins outside the part comes about in reset. -/
theorem assertedResetHoldsState : Obligations.AssertedResetHoldsState := by
  intro c s hreset hidle hhard hrelease
  have hlive : s.live = false := by simp [State.live, hreset]
  have hmoved : ∀ u : State, c ≠ .refclkRunsAgain → s.mcsMoved u → u = { s with
      refclkRunning := u.refclkRunning, inReset := if c = .refclkRunsAgain then s.resetLow else true
      link := { s.link with mcsLow := u.link.mcsLow }, out := u.out } := fun u hc hu => by
    rw [if_neg hc, ← hreset, show u.refclkRunning = s.refclkRunning by rw [hu]]
    exact hu
  by_cases hstops : c = .refclkStops
  · subst hstops
    exact ⟨_, rfl, by rw [if_neg (by simp), ← hreset]; rfl, rfl, rfl⟩
  by_cases hruns : c = .refclkRunsAgain
  · subst hruns
    exact ⟨_, rfl, by simp [State.took, State.quiet, hreset], rfl, rfl⟩
  obtain ⟨-, h | h⟩ | ⟨bytes, f, -, h⟩ | ⟨bits, rfl⟩ := exec_of_not_live hlive hhard hrelease hstops hruns
  · exact ⟨_, h, hmoved _ hruns rfl, rfl, rfl⟩
  · exact ⟨_, h, hmoved _ hruns rfl, rfl, rfl⟩
  · obtain ⟨hfar, hnear⟩ := s.frameCommand_out bytes f
    exact ⟨_, h, hmoved _ hruns (State.mcsMoved_frameCommand hreset hidle bytes f), hfar, hnear⟩
  · have hself : s.mcsMoved s.quiet := rfl
    have h := exec_shortFrame_reset hreset bits
    obtain ⟨hfar, hnear⟩ := execShortFrame_out (h : execShortFrame bits s = _)
    exact ⟨_, h, hmoved _ hruns
      (State.mcsMoved.mcsRise (State.mcsMoved.mcsFall (State.mcsMoved.mcsRise hself hidle) hreset) hidle), hfar, hnear⟩

theorem exec_shortFrame_linkMoved (s : State) (bits : Fin 8) : ∃ u, exec (.shortFrame bits) s = .next u ∧ s.linkMoved u := by
  have hopen : s.linkMoved s.quiet.mcsRise.mcsFall :=
    State.linkMoved.mcsFall (State.linkMoved.mcsRise (s.linkMoved_self Out.none))
  obtain ⟨u, hu, -⟩ := Effect.of_shortFrame s bits
  exact ⟨u, hu, shortFrame_keeps (P := s.linkMoved) (fun _ o h => State.linkMoved.with_out h o)
    (fun _ _ h => State.linkMoved.updLink h rfl) (fun _ h => State.linkMoved.mcsRise h)
    (fun _ _ h => State.linkMoved.mcsFall h) (s.linkMoved_self s.out) hu⟩

section

variable {s : State} (hrun : s.refclkRunning = false)
include hrun

theorem State.linkMoved_frameCommand (bytes : List Byte) (f : Frame) : s.linkMoved (s.frameCommand bytes f) :=
  State.frameCommand_keeps (P := s.linkMoved) (fun _ o h => State.linkMoved.with_out h o)
    (fun _ b h => State.linkMoved.linkByte h hrun b) (fun _ h => State.linkMoved.mcsRise h)
    (fun _ _ h => State.linkMoved.mcsFall h) (s.linkMoved_self s.out) bytes f

/-- A byte that completes while REFCLK is stopped takes the frame to IGNORE, and the rest carries zeros (R154). -/
theorem State.clockBytes_stopped (hidle : s.link.phase ≠ .idle) (frame : List Byte) (n : Nat) :
    (s.clockBytes frame (n + 1)).link.phase = .ignore ∧
      (s.clockBytes frame (n + 1)).link.mso = s.link.mso ++ s.link.outByte :: List.replicate n 0#8 := by
  rw [State.clockBytes_succ, State.linkByte_stopped hidle hrun, State.clockBytes_ignore rfl]
  refine ⟨rfl, ?_⟩
  simp [State.shifted]

theorem State.frameCommand_stopped (hreset : s.inReset = false) (bytes : List Byte) {f : Frame} (hends : f.ends = false)
    (hbytes : 1 ≤ f.bytes) :
    (f.starts = true → (s.frameCommand bytes f).link.phase = .ignore ∧
      (s.frameCommand bytes f).link.mso = s.statusByte :: List.replicate (f.bytes - 1) 0#8) ∧
    (f.starts = false → s.link.phase ≠ .idle → (s.frameCommand bytes f).link.phase = .ignore) := by
  obtain ⟨n, hn⟩ : ∃ n, f.bytes = n + 1 := ⟨f.bytes - 1, by omega⟩
  have hopen : s.quiet.mcsRise.mcsFall = s.quiet.updLink fun _ => Link.opened s := State.mcsRise_mcsFall hreset
  have hlink : (s.frameCommand bytes f).link =
      ((if f.starts then s.quiet.updLink fun _ => Link.opened s else s.quiet).clockBytes bytes (n + 1)).link := by
    simp only [State.frameCommand, hreset, State.runFrame, hends, hopen, hn, Bool.false_eq_true, if_false]
    rfl
  rw [hlink]
  refine ⟨fun hstarts => ?_, fun hstarts hidle => ?_⟩
  · rw [if_pos hstarts]
    have h := State.clockBytes_stopped (s := s.quiet.updLink fun _ => Link.opened s) hrun (by simp [Link.opened]) bytes n
    rw [hn]
    exact ⟨h.1, h.2⟩
  · rw [if_neg (by simp [hstarts])]
    exact (State.clockBytes_stopped (s := s.quiet) hrun hidle bytes n).1

end

/-- Settles O3: a stopped REFCLK lets the link shift, and nothing else happens. -/
theorem stoppedClockHoldsState : Obligations.StoppedClockHoldsState := by
  intro c s hrun hhard hruns
  have hlive : s.live = false := by simp [State.live, hrun]
  have hmoved : ∀ u : State, c ≠ .resetRelease → s.linkMoved u → u = { s with
      link := u.link, resetLow := if c = .resetRelease then false else s.resetLow, out := u.out } := fun u hc hu => by
    rw [if_neg hc]; exact hu.1
  have hnone : frameOf c = none → ∀ (P : Frame → Prop) f, frameOf c = some f → P f := fun h P f hf => by
    rw [h] at hf; cases hf
  by_cases hrelease : c = .resetRelease
  · subst hrelease
    exact ⟨_, exec_resetRelease_unseen (.inl hrun), by rw [if_pos rfl], rfl, rfl, rfl, hnone rfl _⟩
  by_cases hstops : c = .refclkStops
  · subst hstops
    exact ⟨_, rfl, by rw [if_neg (by simp), ← hrun]; rfl, rfl, rfl, rfl, hnone rfl _⟩
  obtain ⟨hf, h | h⟩ | ⟨bytes, f, hf, h⟩ | ⟨bits, rfl⟩ := exec_of_not_live hlive hhard hrelease hstops hruns
  · exact ⟨_, h, hmoved _ hrelease (s.linkMoved_self Out.none), rfl, rfl, rfl, hnone hf _⟩
  · exact ⟨_, h, hmoved _ hrelease (s.linkMoved_self _), rfl, rfl, rfl, hnone hf _⟩
  · obtain ⟨hfar, hnear⟩ := s.frameCommand_out bytes f
    have hm := State.linkMoved_frameCommand hrun bytes f
    refine ⟨_, h, hmoved _ hrelease hm, hm.2, hfar, hnear, fun g hg hreset hends hbytes => ?_⟩
    obtain rfl : f = g := Option.some.inj (hf.symm.trans hg)
    obtain ⟨hstarted, hcarried⟩ := State.frameCommand_stopped hrun hreset bytes hends hbytes
    refine ⟨fun hstarts => ⟨(hstarted hstarts).1, ?_⟩, hcarried⟩
    rw [msoNumbers, (hstarted hstarts).2, List.map_cons, s.statusByte_toNat, List.map_replicate]
    rfl
  · obtain ⟨u, hu, hm⟩ := exec_shortFrame_linkMoved s bits
    obtain ⟨hfar, hnear⟩ := execShortFrame_out hu
    exact ⟨u, hu, hmoved _ hrelease hm, hm.2, hfar, hnear, hnone rfl _⟩

end Sys2Proof.Machine
end

section
/-! SUPPORT. The layouts of registers and records, as numbers (O41, O46, O47). -/

namespace Sys2Proof.Machine

open Sys2Proof.Safety Sys2Proof.Claim

/-! Bits and bytes as numbers. -/

theorem toNat_append_add {m n : Nat} (x : BitVec m) (y : BitVec n) : (x ++ y).toNat = x.toNat * 2 ^ n + y.toNat := by
  rw [BitVec.toNat_append, ← Nat.shiftLeft_add_eq_or_of_lt y.isLt, Nat.shiftLeft_eq]

theorem wordBytes_toNat (v : Word32) : (wordBytes v).map BitVec.toNat = bytesOf v.toNat := by
  have hv := v.isLt
  simp [wordBytes, bytesOf, BitVec.extractLsb'_toNat, Nat.shiftRight_eq_div_pow]

/-- The four bytes of a word, put together again. -/
theorem bytesWord_wordBytes (v : Word32) :
    bytesWord (v.extractLsb' 24 8) (v.extractLsb' 16 8) (v.extractLsb' 8 8) (v.extractLsb' 0 8) = v := by
  refine BitVec.eq_of_toNat_eq ?_
  have hv := v.isLt
  simp only [bytesWord, toNat_append_add, BitVec.extractLsb'_toNat, Nat.shiftRight_eq_div_pow]
  omega

/-! Registers. -/

theorem Window.shapeValue_toNat (r : Window) : r.shapeValue.toNat =
    r.sizeCode.toNat + 256 * r.granuleCode.toNat + 4096 * r.queuedAllowed.toNat + 8192 * r.autoGate.toNat
      + 65536 * r.decay.toNat := by
  simp only [Window.shapeValue, toNat_append_add, BitVec.toNat_ofBool, BitVec.toNat_ofNat]
  omega

theorem Window.limitsValue_toNat (r : Window) :
    r.limitsValue.toNat = r.th.toNat + 256 * r.hy.toNat + 65536 * r.tenure.toNat := by
  simp only [Window.limitsValue, toNat_append_add, BitVec.toNat_ofNat]
  omega

theorem State.controlValue_toNat (s : State) :
    s.controlValue.toNat = s.mon.toNat + 16 * s.sampleCode.toNat + 65536 * s.mask.toNat := by
  simp only [State.controlValue, toNat_append_add, BitVec.toNat_ofBool, BitVec.toNat_ofNat]
  omega

theorem State.registerValue_toNat (s : State) (r : Reg) : (s.registerValue r).toNat = registerLayout s r := by
  cases r with
  | id => rfl
  | control => exact s.controlValue_toNat
  | base w => rfl
  | shape w => exact (s.window w).shapeValue_toNat
  | limits w => exact (s.window w).limitsValue_toNat
  | enable w =>
    simp only [State.registerValue, registerLayout, Window.enableValue, toNat_append_add, BitVec.toNat_ofBool, BitVec.toNat_ofNat]
    omega

/-! Records. -/

theorem Mode.code_toNat (m : Mode) : m.code.toNat = stateNumber m := by cases m <;> rfl

theorem masters_toNat (l : List Master) : (l.map fun m => BitVec.ofNat 8 m.val).map BitVec.toNat = l.map fun m => m.val := by
  rw [List.map_map]
  refine List.map_congr_left fun m _ => ?_
  simp only [Function.comp_apply, BitVec.toNat_ofNat]
  omega

theorem holderByte_toNat (h : Option Master) :
    (BitVec.ofBool h.isSome ++ 0#3 ++ BitVec.ofNat 4 ((h.map Fin.val).getD 0)).toNat =
      (h.map fun m => 128 + m.val).getD 0 := by
  cases h with
  | none => rfl
  | some m =>
    simp only [toNat_append_add, BitVec.toNat_ofBool, BitVec.toNat_ofNat, Option.isSome_some, Option.map_some, Option.getD_some,
      Bool.toNat_true]
    omega

/-- The entry record in its layout (R148). -/
theorem Entry.record_toNat (x : Entry) : x.record.map BitVec.toNat = entryLayout x := by
  have hw := x.granule.window.isLt
  have hfirst : (x.state.code ++ BitVec.ofNat 2 x.granule.window.val ++ BitVec.ofBool x.warm ++ BitVec.ofBool x.hot ++ 0#2).toNat =
      64 * stateNumber x.state + 16 * x.granule.window.val + 8 * x.warm.toNat + 4 * x.hot.toNat := by
    simp only [toNat_append_add, BitVec.toNat_ofBool, BitVec.toNat_ofNat, Mode.code_toNat]
    omega
  have hcount : (BitVec.ofNat 4 x.count ++ 0#4).toNat = 16 * (x.count % 16) := by
    simp only [toNat_append_add, BitVec.toNat_ofNat]
    omega
  simp only [Entry.record, entryLayout, List.map_append, List.map_cons, List.map_nil, wordBytes_toNat, masters_toNat, hfirst,
    hcount, holderByte_toNat, BitVec.toNat_ofNat]
  cases x.holder <;> rfl

/-- The first byte of a context record: which parts are present, and the window of the reservation. -/
theorem presentByte_toNat (r p h : Bool) (w : WindowIx) :
    (BitVec.ofBool r ++ BitVec.ofBool p ++ BitVec.ofBool h ++ 0#3 ++ BitVec.ofNat 2 w.val).toNat =
      128 * r.toNat + 64 * p.toNat + 32 * h.toNat + w.val := by
  have hw := w.isLt
  simp only [toNat_append_add, BitVec.toNat_ofBool, BitVec.toNat_ofNat]
  omega

theorem parkByte_toNat (t : Tag) (z : SizeCode) (w : WindowIx) :
    (BitVec.ofNat 3 t.val ++ BitVec.ofNat 3 z.val ++ BitVec.ofNat 2 w.val).toNat = 32 * t.val + 4 * z.val + w.val := by
  have ht := t.isLt
  have hz := z.isLt
  have hw := w.isLt
  simp only [toNat_append_add, BitVec.toNat_ofNat]
  omega

theorem queueByte_toNat (e : EntryIx) : (1#1 ++ 0#2 ++ BitVec.ofNat 5 e.val).toNat = 128 + e.val := by
  have he := e.isLt
  simp only [toNat_append_add, BitVec.toNat_ofNat]
  omega

/-- The context record in its layout (R148). -/
theorem Context.record_toNat (c : Context) : c.record.map BitVec.toNat = contextLayout c := by
  obtain ⟨res, park, hold⟩ := c
  simp only [Context.record, contextLayout, List.map_append, List.map_cons, List.map_nil, wordBytes_toNat, presentByte_toNat,
    parkByte_toNat, List.append_assoc]
  rw [← List.append_assoc _ (bytesOf _), ← List.append_assoc (bytesOf _) (bytesOf _) [_], ← List.append_assoc [_, _]]
  refine congrArg₂ (· ++ ·) ?_ (congrArg₂ (· ++ ·) ?_ ?_)
  · cases res <;> rfl
  · cases park with
    | none => rfl
    | some p =>
      cases hp : p.reason with
      | hazard => simp [hp]
      | queue e => simp only [Option.getD_some, hp, queueByte_toNat]
  · cases hold with
    | none => rfl
    | some e =>
      have he := e.isLt
      show [e.val % 2 ^ 8] = [e.val]
      rw [Nat.mod_eq_of_lt (by omega)]

theorem Reason.code_toNat (r : Reason) : r.code.toNat = reasonNumber r := by cases r <;> rfl

theorem noticeBytes_toNat (kind : Byte) (m : Master) (t : Tag) (e : EntryIx) (reason : BitVec 3) (w : WindowIx) (a : Addr) :
    (noticeBytes kind m.val t.val e.val reason w.val a).map BitVec.toNat =
      [kind.toNat, 16 * m.val + t.val, e.val, 16 * reason.toNat + w.val] ++ bytesOf a.toNat := by
  have hm := m.isLt
  have ht := t.isLt
  have he := e.isLt
  have hw := w.isLt
  simp only [noticeBytes, List.map_append, List.map_cons, List.map_nil, wordBytes_toNat, toNat_append_add, BitVec.toNat_ofNat]
  have hfields : (m.val % 2 ^ 4 * 2 ^ 1 + 0 % 2 ^ 1) * 2 ^ 3 + t.val % 2 ^ 3 = 16 * m.val + t.val ∧ e.val % 2 ^ 8 = e.val ∧
      ((0 % 2 ^ 1 * 2 ^ 3 + reason.toNat) * 2 ^ 2 + 0 % 2 ^ 2) * 2 ^ 2 + w.val % 2 ^ 2 = 16 * reason.toNat + w.val := by omega
  rw [hfields.1, hfields.2.1, hfields.2.2]

/-- The notice record in its layout (R138). -/
theorem Notice.record_toNat (n : Notice) : n.record.map BitVec.toNat = noticeLayout n := by
  cases n with
  | granuleHot e g => exact (noticeBytes_toNat 1#8 0 0 e 0#3 g.window g.base).trans (by simp [noticeLayout])
  | granuleCool e g => exact (noticeBytes_toNat 2#8 0 0 e 0#3 g.window g.base).trans (by simp [noticeLayout])
  | tenureExpired m e a => exact noticeBytes_toNat 3#8 m 0 e 0#3 0 a
  | protocol m t a r =>
    refine (noticeBytes_toNat 4#8 m t 0 r.code 0 a).trans ?_
    rw [Reason.code_toNat]
    rfl
  | untracked g => exact (noticeBytes_toNat 5#8 0 0 0 0#3 g.window g.base).trans (by simp [noticeLayout])
  | memoryError m t a => exact noticeBytes_toNat 6#8 m t 0 0#3 0 a

end Sys2Proof.Machine
end

section
/-! SUPPORT. Complete frames: what their bytes make of the link, and of the state they act on. -/

namespace Sys2Proof.Machine

open Sys2Proof.Safety Sys2Proof.Claim

/-- The state during a frame: the records of `s`, the link as it stands, and nothing sent. -/
def State.linked (s : State) (k : Link) : State := { s with link := k, out := Out.none }

/-- The link after MSO carried one more byte. -/
def Link.shifted (k : Link) : Link := { k with mso := k.mso ++ [k.outByte], done := k.done + 1 }

/-- The link with a snapshot to return. -/
def Link.returning (k : Link) (l : List Byte) : Link := { k with phase := .ret, shiftOut := l }

/-- The link after the last byte `b` of a snapshot. -/
def Link.returned (k : Link) (b : Byte) : Link :=
  { k with phase := .ret, shiftOut := [], mso := k.mso ++ [b], done := k.done + 1 }

/-- The link after the command byte. -/
def Link.commanded (s : State) : Link := { Link.opened s with mso := [s.statusByte], done := 1 }

/-- The link after the byte of a command that takes an argument. -/
def Link.asked (s : State) (c : LinkCommand) : Link := { Link.commanded s with command := some c, phase := .argument }

/-- The link after the argument byte. -/
def Link.told (s : State) (c : LinkCommand) : Link := { Link.asked s c with mso := [s.statusByte, 0#8], done := 2 }

section

variable (s : State) (k : Link)

@[simp] theorem State.linked_link : (s.linked k).link = k := rfl
@[simp] theorem State.linked_window (w : WindowIx) : (s.linked k).window w = s.window w := rfl
@[simp] theorem State.linked_ctx (m : Master) : (s.linked k).ctx m = s.ctx m := rfl
@[simp] theorem State.linked_entry (e : EntryIx) : (s.linked k).entry e = s.entry e := rfl
@[simp] theorem State.linked_active (w : WindowIx) : (s.linked k).active w = s.active w := rfl
@[simp] theorem State.linked_noticeRecord : (s.linked k).noticeRecord = s.noticeRecord := rfl
@[simp] theorem State.linked_freeCount : (s.linked k).freeCount = s.freeCount := rfl

theorem State.linked_registerValue (r : Reg) : (s.linked k).registerValue r = s.registerValue r := by cases r <;> rfl

theorem State.linked_updLink (f : Link → Link) : (s.linked k).updLink f = s.linked (f k) := rfl

theorem State.linked_refuse : (s.linked k).refuse = s.linked { k with refused := true } := rfl

theorem State.linked_returns (l : List Byte) : (s.linked k).returns l = s.linked (k.returning l) := rfl

theorem State.linked_shifted : (s.linked k).shifted = s.linked k.shifted := rfl

theorem Link.commanded_eq : (Link.opened s).shifted = Link.commanded s := rfl

theorem Link.told_eq (c : LinkCommand) : (Link.asked s c).shifted = Link.told s c := rfl

/-- A frame's end: MCS_N rises, and the frame was taken. -/
theorem State.linked_finish :
    (s.linked k).mcsRise.took = { s with link := { k with phase := .idle, mcsLow := false }, out := moved none none } := rfl

end

section

variable {s : State} (hopen : linkOpen s)
include hopen

/-- A complete frame opens the link, clocks its bytes and ends. -/
theorem exec_whole {c : Instr} {n : Nat} (h : frameOf c = some (whole n)) :
    exec c s = .next ((s.linked (Link.opened s)).clockBytes (bytesOfCommand c) n).mcsRise.took := by
  have hstart : s.quiet.mcsRise.mcsFall = s.linked (Link.opened s) := State.mcsRise_mcsFall (s := s.quiet) hopen.2
  rw [exec_of_frameOf h]
  simp only [State.frameCommand, State.runFrame, whole, hopen.2, hstart, Bool.false_eq_true, if_true, if_false]

/-- The command byte. -/
theorem State.clock_command (b : Byte) (rest : List Byte) (n : Nat) :
    (s.linked (Link.opened s)).clockBytes (b :: rest) (n + 1) =
      ((s.linked (Link.commanded s)).commandByte b).clockBytes (b :: rest) n := by
  rw [State.clockBytes_succ]
  exact congrArg (State.clockBytes · (b :: rest) n) (State.linkByte_command rfl hopen.1)

/-- The byte of a command that takes an argument. -/
theorem State.clock_code {c : LinkCommand} (hc : c ≠ .takeNotice ∧ c ≠ .readStatus ∧ c ≠ .clearAll) (rest : List Byte)
    (n : Nat) : (s.linked (Link.opened s)).clockBytes (commandCode c :: rest) (n + 1) =
      (s.linked (Link.asked s c)).clockBytes (commandCode c :: rest) n := by
  obtain ⟨hnotice, hstatus, hclear⟩ := hc
  rw [State.clock_command hopen]
  refine congrArg (State.clockBytes · _ n) ?_
  cases c with
  | takeNotice => exact absurd rfl hnotice
  | readStatus => exact absurd rfl hstatus
  | clearAll => exact absurd rfl hclear
  | readRegister | writeRegister | readEntry | readContext | releaseHolder => rfl

/-- The argument byte. -/
theorem State.clock_argument (c : LinkCommand) (b a : Byte) (rest : List Byte) (n : Nat) :
    (s.linked (Link.asked s c)).clockBytes (b :: a :: rest) (n + 1) =
      ((s.linked (Link.told s c)).argumentByte a).clockBytes (b :: a :: rest) n := by
  rw [State.clockBytes_succ]
  exact congrArg (State.clockBytes · (b :: a :: rest) n) (State.linkByte_argument rfl hopen.1)

/-- A byte returned, with more to come. -/
theorem State.linkByte_returning (k : Link) (b c : Byte) (l : List Byte) (x : Byte) :
    (s.linked (k.returning (b :: c :: l))).linkByte x =
      s.linked (Link.returning { k with mso := k.mso ++ [b], done := k.done + 1 } (c :: l)) :=
  State.linkByte_ret rfl hopen.1

/-- The last byte returned. -/
theorem State.linkByte_returned (k : Link) (b x : Byte) :
    (s.linked (k.returning [b])).linkByte x =
      (s.linked (k.returned b)).finishReturn.updLink fun k => { k with phase := .ignore } :=
  State.linkByte_ret rfl hopen.1

/-- Part of a snapshot returned. -/
theorem State.clock_part (frame : List Byte) (k : Link) (l : List Byte) {n : Nat} (hn : n < l.length) :
    (s.linked (k.returning l)).clockBytes frame n =
      s.linked (Link.returning { k with mso := k.mso ++ l.take n, done := k.done + n } (l.drop n)) := by
  induction n generalizing k l with
  | zero => simp [State.clockBytes]
  | succ n ih =>
    match l, hn with
    | b :: c :: l, hn =>
      rw [State.clockBytes_succ, State.linkByte_returning hopen, ih _ _ (by simpa using hn)]
      simp [Nat.add_assoc, Nat.add_comm 1 n]

/-- A whole snapshot returned. -/
theorem State.clock_snapshot (frame : List Byte) (k : Link) {l : List Byte} (hl : l ≠ []) :
    (s.linked (k.returning l)).clockBytes frame l.length =
      (s.linked (Link.returning { k with mso := k.mso ++ l, done := k.done + l.length } [])).finishReturn.updLink
        fun k => { k with phase := .ignore } := by
  obtain ⟨front, b, rfl⟩ : ∃ front b, l = front ++ [b] := ⟨_, _, (List.dropLast_append_getLast hl).symm⟩
  have hlast := State.linkByte_returned hopen { k with mso := k.mso ++ front, done := k.done + front.length } b
  rw [List.length_append, List.length_singleton, State.clockBytes_add, State.clock_part hopen frame k _ (by simp),
    List.take_left, List.drop_left, State.clockBytes_succ, hlast]
  simp only [Link.returned, List.append_assoc, Nat.add_assoc]
  rfl

end

end Sys2Proof.Machine
end

section
/-! SUPPORT. The commands that read: registers (O41), records (O46), notices (O47), status (O48); unknown and cut commands
(O51). -/

namespace Sys2Proof.Machine

open Sys2Proof.Safety Sys2Proof.Claim

/-! A command that returns what its argument names. -/

/-- The argument byte takes the snapshot `l`, and sets REFUSED where `refused` says. -/
def Snapshot (s : State) (c : LinkCommand) (a : Byte) (l : List Byte) (refused : Bool) : Prop :=
  (s.linked (Link.told s c)).argumentByte a =
    s.linked (Link.returning { Link.told s c with refused := s.link.refused || refused } l)

section

variable {s : State}

theorem snapshot_register {a : Byte} {r : Reg} (h : decodeRegister a = some r) :
    Snapshot s .readRegister a (wordBytes (s.registerValue r)) false := by
  show State.askRegister _ a = _
  simp only [State.askRegister, h, State.linked_registerValue, State.linked_returns, Bool.or_false]
  rfl

theorem snapshot_noRegister {a : Byte} (h : decodeRegister a = none) :
    Snapshot s .readRegister a (List.replicate 4 0#8) true := by
  show State.askRegister _ a = _
  simp only [State.askRegister, h, State.linked_refuse, State.linked_returns, Bool.or_true]

theorem snapshot_entry (e : EntryIx) : Snapshot s .readEntry (BitVec.ofNat 8 e.val) (s.entry e).record false := by
  have he := e.isLt
  have hix : (BitVec.ofNat 8 e.val).toNat = e.val := Nat.mod_eq_of_lt (by omega)
  show State.askEntry _ _ = _
  simp only [State.askEntry, hix, he, dif_pos, State.linked_returns, Bool.or_false]
  rfl

theorem snapshot_noEntry {i : Byte} (h : 32 ≤ i.toNat) : Snapshot s .readEntry i (List.replicate 13 0#8) true := by
  show State.askEntry _ _ = _
  rw [State.askEntry, dif_neg (by omega), State.linked_refuse, State.linked_returns, Bool.or_true]

theorem snapshot_context (m : Master) : Snapshot s .readContext (BitVec.ofNat 8 m.val) (s.ctx m).record false := by
  have hm := m.isLt
  have hix : (BitVec.ofNat 8 m.val).toNat = m.val := Nat.mod_eq_of_lt (by omega)
  show State.askContext _ _ = _
  simp only [State.askContext, hix, hm, dif_pos, State.linked_returns, Bool.or_false]
  rfl

theorem snapshot_noContext {i : Byte} (h : 16 ≤ i.toNat) : Snapshot s .readContext i (List.replicate 16 0#8) true := by
  show State.askContext _ _ = _
  rw [State.askContext, dif_neg (by omega), State.linked_refuse, State.linked_returns, Bool.or_true]

/-- The commands that read by an argument leave the state as it is when their snapshot has been returned. -/
theorem State.finishReturn_linked {k : Link} (hnotice : k.command ≠ some .takeNotice) (hstatus : k.command ≠ some .readStatus) :
    (s.linked k).finishReturn = s.linked k := by
  unfold State.finishReturn
  split
  next h => exact absurd h hnotice
  next h => exact absurd h hstatus
  next => rfl

/-- A complete frame of a command that reads by an argument: the status byte, a zero byte and the snapshot. -/
theorem exec_reading (hopen : linkOpen s) {i : Instr} {c : LinkCommand} {a : Byte} {n : Nat} (hf : frameOf i = some (whole n))
    (hbytes : bytesOfCommand i = [commandCode c, a]) (hc : c = .readRegister ∨ c = .readEntry ∨ c = .readContext)
    {l : List Byte} {refused : Bool} (hsnap : Snapshot s c a l refused) (hl : l ≠ []) (hn : n = 2 + l.length) :
    ∃ u, exec i s = .next u ∧ u = { s with link := u.link, out := moved none none } ∧ u.link.phase = .idle ∧
      u.link.mcsLow = false ∧ u.link.mso = s.statusByte :: 0#8 :: l ∧ u.link.refused = (s.link.refused || refused) := by
  have hcode : c ≠ .takeNotice ∧ c ≠ .readStatus ∧ c ≠ .clearAll := by
    obtain rfl | rfl | rfl := hc <;> decide
  have hn' : n = l.length + 1 + 1 := by omega
  subst hn'
  rw [exec_whole hopen hf, hbytes, State.clock_code hopen hcode, State.clock_argument hopen, hsnap,
    State.clock_snapshot hopen _ _ hl,
    State.finishReturn_linked (fun h => hcode.1 (Option.some.inj h)) (fun h => hcode.2.1 (Option.some.inj h)),
    State.linked_updLink, State.linked_finish]
  exact ⟨_, rfl, rfl, rfl, rfl, rfl, rfl⟩

end

/-- Settles O41: the address byte takes the register's value as the snapshot. -/
theorem readRegisterReturnsValue : Obligations.ReadRegisterReturnsValue := by
  intro a s hopen
  refine ⟨s.statusByte_toNat, ?_⟩
  cases hr : decodeRegister a with
  | some r =>
    obtain ⟨u, hu, hstate, hidle, hlow, hmso, hrefused⟩ := exec_reading hopen (i := .readRegister a (whole 6)) rfl rfl (.inl rfl)
      (snapshot_register hr) (by simp [wordBytes]) rfl
    refine ⟨u, hu, hstate, hidle, hlow, fun r' hr' => ?_, fun h => by cases h⟩
    obtain rfl := Option.some.inj hr'
    refine ⟨?_, by simpa using hrefused, s.registerValue_toNat r⟩
    rw [msoNumbers, hmso, List.map_cons, List.map_cons, wordBytes_toNat, s.statusByte_toNat, s.registerValue_toNat]
    rfl
  | none =>
    obtain ⟨u, hu, hstate, hidle, hlow, hmso, hrefused⟩ := exec_reading hopen (i := .readRegister a (whole 6)) rfl rfl (.inl rfl)
      (snapshot_noRegister hr) (by simp) rfl
    refine ⟨u, hu, hstate, hidle, hlow, fun r' hr' => by (cases hr'), fun _ => ⟨?_, by simpa using hrefused⟩⟩
    rw [msoNumbers, hmso, List.map_cons, s.statusByte_toNat]
    rfl

theorem Context.record_length (c : Context) : c.record.length = 16 := by simp [Context.record, wordBytes]

theorem Entry.record_length (x : Entry) : x.record.length = 13 + x.queue.length := by
  simp [Entry.record, wordBytes]; omega

/-- Settles O46: the index byte takes the record named as the snapshot. -/
theorem recordsReturned : Obligations.RecordsReturned := by
  intro s hopen
  refine ⟨fun e => ?_, fun m => ?_, fun i hi => ?_, fun i hi => ?_⟩
  · obtain ⟨u, hu, hstate, -, -, hmso, hrefused⟩ := exec_reading hopen
      (i := .readEntry (BitVec.ofNat 8 e.val) (whole (15 + (s.entry e).queue.length))) rfl rfl (.inr (.inl rfl)) (snapshot_entry e)
      (by simp [Entry.record]) (by rw [Entry.record_length]; omega)
    refine ⟨u, hu, hstate, by simpa using hrefused, ?_⟩
    rw [msoNumbers, hmso, List.map_cons, List.map_cons, Entry.record_toNat, s.statusByte_toNat]
    rfl
  · obtain ⟨u, hu, hstate, -, -, hmso, hrefused⟩ := exec_reading hopen
      (i := .readContext (BitVec.ofNat 8 m.val) (whole 18)) rfl rfl (.inr (.inr rfl)) (snapshot_context m)
      (by simp [Context.record]) (by rw [Context.record_length])
    refine ⟨u, hu, hstate, by simpa using hrefused, ?_⟩
    rw [msoNumbers, hmso, List.map_cons, List.map_cons, Context.record_toNat, s.statusByte_toNat]
    rfl
  · obtain ⟨u, hu, hstate, -, -, hmso, hrefused⟩ := exec_reading hopen (i := .readEntry i (whole 15)) rfl rfl (.inr (.inl rfl))
      (snapshot_noEntry hi) (by simp) rfl
    refine ⟨u, hu, hstate, by simpa using hrefused, ?_⟩
    rw [msoNumbers, hmso, List.map_cons, s.statusByte_toNat]
    rfl
  · obtain ⟨u, hu, hstate, -, -, hmso, hrefused⟩ := exec_reading hopen (i := .readContext i (whole 18)) rfl rfl (.inr (.inr rfl))
      (snapshot_noContext hi) (by simp) rfl
    refine ⟨u, hu, hstate, by simpa using hrefused, ?_⟩
    rw [msoNumbers, hmso, List.map_cons, s.statusByte_toNat]
    rfl

end Sys2Proof.Machine
end

section
/-! SUPPORT. The commands without an argument: notices (O47), status (O48), unknown and cut commands (O51). -/

namespace Sys2Proof.Machine

open Sys2Proof.Safety Sys2Proof.Claim

/-- The link after the command byte of TAKE NOTICE. -/
def Link.taking (s : State) : Link :=
  { Link.commanded s with command := some .takeNotice, headTaken := !s.notices.isEmpty }

theorem Notice.record_length (n : Notice) : n.record.length = 8 := by cases n <;> rfl

theorem State.noticeRecord_length (s : State) : s.noticeRecord.length = 8 := by
  unfold State.noticeRecord
  split
  next n _ _ => exact n.record_length
  next => rfl

theorem State.linked_statusRecord (s : State) {k : Link} (h : k.refused = s.link.refused) :
    (s.linked k).statusRecord = s.statusRecord := by
  simp only [State.statusRecord, State.flagBits, State.linked_freeCount, State.linked_link, h]
  rfl

section

variable {s : State} (hopen : linkOpen s)
include hopen

/-- TAKE NOTICE takes its snapshot at the command byte (R144). -/
theorem State.clock_takeNotice (n : Nat) :
    (s.linked (Link.opened s)).clockBytes [commandCode .takeNotice] (n + 1) =
      (s.linked ((Link.taking s).returning s.noticeRecord)).clockBytes [commandCode .takeNotice] n :=
  State.clock_command hopen _ _ n

/-- READ STATUS takes its snapshot at the command byte, and clears the discard mark (R139). -/
theorem State.clock_readStatus (n : Nat) :
    (s.linked (Link.opened s)).clockBytes [commandCode .readStatus] (n + 1) =
      (({ s with discardMark := false } : State).linked
        (Link.returning { Link.commanded s with command := some .readStatus } s.statusRecord)).clockBytes
          [commandCode .readStatus] n := by
  rw [State.clock_command hopen, ← s.linked_statusRecord (k := { Link.commanded s with command := some .readStatus }) rfl]
  rfl

/-- An unknown command code sets REFUSED, and the frame is ignored (R144). -/
theorem State.clock_unknown {c : Byte} (h : decodeCommand c = none) (n : Nat) :
    (s.linked (Link.opened s)).clockBytes [c] (n + 1) =
      s.linked { Link.commanded s with
        refused := true, phase := .ignore, mso := s.statusByte :: List.replicate n 0#8, done := 1 + n } := by
  have hbyte : (s.linked (Link.commanded s)).commandByte c =
      s.linked { Link.commanded s with refused := true, phase := .ignore } := by
    simp only [State.commandByte, h, State.linked_updLink, State.linked_refuse]
    rfl
  rw [State.clock_command hopen, hbyte, State.clockBytes_ignore rfl]
  rfl

end

section

variable {s : State}

/-- With the last byte of its record the notice taken is removed (R138). -/
theorem State.finishReturn_taking {k : Link} (hcommand : k.command = some .takeNotice) (htaken : k.headTaken = !s.notices.isEmpty) :
    (s.linked k).finishReturn = ({ s with notices := s.notices.tail } : State).linked k := by
  unfold State.finishReturn
  rw [show (s.linked k).link.command = some .takeNotice from hcommand]
  show (if k.headTaken then _ else _) = _
  rw [htaken]
  cases hn : s.notices with
  | nil =>
    have hkeep : s = { s with notices := [] } := by rw [← hn]
    exact congrArg (State.linked · k) hkeep
  | cons n rest =>
    simp only [State.linked, hn]
    rfl

/-- With the last byte of the status record REFUSED is cleared, and OVERFLOW unless a discard followed the snapshot (R139). -/
theorem State.finishReturn_status {k : Link} (hcommand : k.command = some .readStatus) :
    (s.linked k).finishReturn =
      ({ s with overflow := s.overflow && s.discardMark } : State).linked { k with refused := false } := by
  unfold State.finishReturn
  rw [show (s.linked k).link.command = some .readStatus from hcommand]
  rfl

variable (hopen : linkOpen s)
include hopen

theorem exec_takeNotice : ∃ u, exec (.takeNotice (whole 9)) s = .next u ∧
    u = { s with notices := s.notices.tail, link := u.link, out := moved none none } ∧ u.link.refused = s.link.refused ∧
    u.link.mso = s.statusByte :: s.noticeRecord := by
  have hwhole := State.clock_snapshot hopen [commandCode .takeNotice] (Link.taking s) s.noticeRecord_ne_nil
  rw [s.noticeRecord_length] at hwhole
  rw [exec_whole hopen (c := .takeNotice (whole 9)) rfl,
    show bytesOfCommand (.takeNotice (whole 9)) = [commandCode .takeNotice] from rfl, State.clock_takeNotice hopen, hwhole,
    State.finishReturn_taking rfl rfl, State.linked_updLink, State.linked_finish]
  exact ⟨_, rfl, rfl, rfl, rfl⟩

theorem exec_readStatus : ∃ u, exec (.readStatus (whole 6)) s = .next u ∧
    u = { s with overflow := false, discardMark := false, link := u.link, out := moved none none } ∧
    u.link.refused = false ∧ u.link.mso = s.statusByte :: s.statusRecord := by
  have hcleared : linkOpen { s with discardMark := false } := hopen
  have hwhole := State.clock_snapshot hcleared [commandCode .readStatus]
    { Link.commanded s with command := some .readStatus } (l := s.statusRecord) (List.cons_ne_nil _ _)
  rw [show s.statusRecord.length = 5 from rfl] at hwhole
  rw [exec_whole hopen (c := .readStatus (whole 6)) rfl,
    show bytesOfCommand (.readStatus (whole 6)) = [commandCode .readStatus] from rfl, State.clock_readStatus hopen, hwhole,
    State.finishReturn_status rfl, State.linked_updLink, State.linked_finish]
  exact ⟨_, rfl, by simp only [Bool.and_false], rfl, rfl⟩

/-- The last byte of a status record that an earlier command left open. -/
theorem exec_readStatus_lastByte {b : Byte} (hret : s.link.phase = .ret) (hcommand : s.link.command = some .readStatus)
    (hshift : s.link.shiftOut = [b]) :
    ∃ u, exec (.readStatus { starts := false, bytes := 1, ends := true }) s = .next u ∧
      u = { s with overflow := s.overflow && s.discardMark, link := u.link, out := moved none none } ∧
      u.link.refused = false := by
  have hquiet : s.quiet = s.linked (s.link.returning [b]) := by
    simp only [State.linked, Link.returning, ← hret, ← hshift]
    rfl
  have hframe : s.frameCommand [commandCode .readStatus] { starts := false, bytes := 1, ends := true } =
      ((s.linked (s.link.returned b)).finishReturn.updLink fun k => { k with phase := .ignore }).mcsRise.took := by
    simp only [State.frameCommand, State.runFrame, hopen.2, hquiet, Bool.false_eq_true, if_true, if_false, State.clockBytes,
      State.linkByte_returned hopen]
  rw [State.finishReturn_status (k := s.link.returned b) hcommand, State.linked_updLink, State.linked_finish] at hframe
  exact ⟨_, (exec_of_frameOf rfl s).trans (congrArg _ hframe), rfl, rfl⟩

theorem exec_shortFrame_open (bits : Fin 8) : exec (.shortFrame bits) s =
    .next (s.linked { Link.opened s with msoBits := (bitsOf s.statusByte).take bits.val }).mcsRise.took := by
  have hstart : s.quiet.mcsRise.mcsFall = s.linked (Link.opened s) := State.mcsRise_mcsFall (s := s.quiet) hopen.2
  show execShortFrame bits s = _
  simp only [execShortFrame, hopen.2, hstart, Bool.false_eq_true, if_false]
  rfl

end

/-- Settles O47: the notice is removed with the last byte of its record, and not before. -/
theorem takeNoticeRemovesHead : Obligations.TakeNoticeRemovesHead := by
  intro s hopen
  obtain ⟨u, hu, hstate, hrefused, hmso⟩ := exec_takeNotice hopen
  refine ⟨fun n rest hnotices => ?_, fun hnotices => ?_, fun n hn => ?_⟩
  · refine ⟨u, hu, by rw [hstate, hnotices]; rfl, hrefused, ?_⟩
    rw [msoNumbers, hmso, List.map_cons, s.statusByte_toNat, State.noticeRecord, hnotices, n.record_toNat]
  · refine ⟨u, hu, by rw [hstate, hnotices]; rfl, hrefused, ?_⟩
    rw [msoNumbers, hmso, List.map_cons, s.statusByte_toNat, State.noticeRecord, hnotices]
    rfl
  · rw [exec_whole hopen rfl]
    cases n with
    | zero => exact ⟨_, rfl, rfl⟩
    | succ n =>
      rw [show bytesOfCommand (.takeNotice (whole (n + 1))) = [commandCode .takeNotice] from rfl, State.clock_takeNotice hopen,
        State.clock_part hopen _ _ _ (by rw [s.noticeRecord_length]; omega)]
      exact ⟨_, rfl, rfl⟩

theorem flagByte_assoc : ∀ a r o m : Bool,
    0#4 ++ (BitVec.ofBool a ++ BitVec.ofBool r ++ BitVec.ofBool o ++ BitVec.ofBool m) =
      0#4 ++ BitVec.ofBool a ++ BitVec.ofBool r ++ BitVec.ofBool o ++ BitVec.ofBool m := by
  decide

/-- Settles O48: the flags are cleared with the last byte of the record, but for a discard after the snapshot. -/
theorem readStatusReportsAndClears : Obligations.ReadStatusReportsAndClears := by
  intro s hopen
  refine ⟨?_, fun b => exec_readStatus_lastByte hopen⟩
  obtain ⟨u, hu, hstate, hrefused, hmso⟩ := exec_readStatus hopen
  refine ⟨u, hu, hstate, hrefused, hmso.trans ?_⟩
  rw [State.statusRecord, State.flagBits, flagByte_assoc]
  rfl

/-- Settles O51: an unknown code acts at its command byte alone, and a frame cut short does not act. -/
theorem unknownAndCutCommands : Obligations.UnknownAndCutCommands := by
  intro s hopen
  refine ⟨fun c n hc => ?_, fun bits => ⟨_, exec_shortFrame_open hopen bits, rfl, rfl, rfl, rfl, rfl⟩⟩
  rw [exec_whole hopen rfl, show bytesOfCommand (.unknownCommand c (whole (n + 1))) = [c] from rfl,
    State.clock_unknown hopen hc]
  exact ⟨_, rfl, rfl, rfl, rfl⟩

end Sys2Proof.Machine
end

section
/-! SUPPORT. Register writes: their frames, the fields of a window (O42), and ENABLE set (O44). -/

namespace Sys2Proof.Machine

open Sys2Proof.Safety Sys2Proof.Claim

/-! The frame of a register write. -/

/-- The link after the data bytes `l` of a WRITE REGISTER frame. -/
def Link.given (s : State) (a : Byte) (l : List Byte) : Link :=
  { Link.told s .writeRegister with
    phase := .data, argument := a, dataIn := l, mso := s.statusByte :: List.replicate (1 + l.length) 0#8, done := 2 + l.length }

section

variable {s : State} (hopen : linkOpen s)
include hopen

theorem State.clock_address (a : Byte) (v : Word32) (n : Nat) :
    (s.linked (Link.opened s)).clockBytes (writeFrame a v) (n + 1 + 1) =
      (s.linked (Link.given s a [])).clockBytes (writeFrame a v) n :=
  (State.clock_code hopen (c := .writeRegister) (by decide) _ _).trans (State.clock_argument hopen .writeRegister _ _ _ _)

/-- A data byte before the fourth. -/
theorem State.linkByte_given (a b : Byte) {l : List Byte} (hl : l.length < 3) :
    (s.linked (Link.given s a l)).linkByte b = s.linked (Link.given s a (l ++ [b])) := by
  rw [State.linkByte_data (s := s.linked (Link.given s a l)) rfl hopen.1]
  match l, hl with
  | [], _ => rfl
  | [x], _ => rfl
  | [x, y], _ => rfl

/-- Up to the third data byte nothing is written. -/
theorem State.clock_given (frame : List Byte) (a : Byte) {n : Nat} {l : List Byte} (hn : n + l.length < 4) :
    ∃ l', (s.linked (Link.given s a l)).clockBytes frame n = s.linked (Link.given s a l') := by
  induction n generalizing l with
  | zero => exact ⟨l, rfl⟩
  | succ n ih =>
    rw [State.clockBytes_succ, State.linkByte_given hopen a _ (by omega)]
    exact ih (by simp; omega)

/-- The fourth data byte writes the register (R146). -/
theorem State.linkByte_fourth (a x y z b : Byte) :
    (s.linked (Link.given s a [x, y, z])).linkByte b =
      ((s.linked (Link.given s a [x, y, z]).shifted).writeRegister a (bytesWord x y z b)).updLink fun k =>
        { k with phase := .ignore, dataIn := k.dataIn ++ [b] } :=
  State.linkByte_data (s := s.linked (Link.given s a [x, y, z])) rfl hopen.1

/-- A WRITE REGISTER frame that is cut short writes nothing. -/
theorem State.clock_write_short (a : Byte) (v : Word32) {n : Nat} (hn : n < 6) :
    ∃ k : Link, (s.linked (Link.opened s)).clockBytes (writeFrame a v) n = s.linked k ∧ k.refused = s.link.refused := by
  match n, hn with
  | 0, _ => exact ⟨Link.opened s, rfl, rfl⟩
  | 1, _ => exact ⟨Link.asked s .writeRegister, State.clock_code hopen (c := .writeRegister) (by decide) _ _, rfl⟩
  | n + 2, hn =>
    obtain ⟨l, hl⟩ := State.clock_given hopen (writeFrame a v) a (n := n) (l := []) (by simp; omega)
    exact ⟨_, (State.clock_address hopen a v n).trans hl, rfl⟩

/-- A WRITE REGISTER frame writes with its last byte. -/
theorem State.clock_write (a : Byte) (v : Word32) :
    ∃ k : Link, k.refused = s.link.refused ∧
      (s.linked (Link.opened s)).clockBytes (writeFrame a v) 6 =
        ((s.linked k).writeRegister a v).updLink fun k =>
          { k with phase := .ignore, dataIn := k.dataIn ++ [v.extractLsb' 0 8] } := by
  refine ⟨(Link.given s a [v.extractLsb' 24 8, v.extractLsb' 16 8, v.extractLsb' 8 8]).shifted, rfl, ?_⟩
  have hthree : (s.linked (Link.given s a [])).clockBytes (writeFrame a v) 4 =
      (s.linked (Link.given s a [v.extractLsb' 24 8, v.extractLsb' 16 8, v.extractLsb' 8 8])).linkByte (v.extractLsb' 0 8) := by
    rw [State.clockBytes_succ, State.linkByte_given hopen a _ (by simp), State.clockBytes_succ,
      State.linkByte_given hopen a _ (by simp), State.clockBytes_succ, State.linkByte_given hopen a _ (by simp)]
    rfl
  rw [State.clock_address hopen, hthree, State.linkByte_fourth hopen, bytesWord_wordBytes]

/-- A register write that is taken leaves the link but for the frame. -/
theorem exec_write_taken {i : Instr} {a : Byte} {v : Word32} {t : State} (hf : frameOf i = some (whole 6))
    (hbytes : bytesOfCommand i = writeFrame a v) (h : ∀ k, (s.linked k).writeRegister a v = t.linked k) :
    ∃ u, exec i s = .next u ∧ u = { t with link := u.link, out := moved none none } ∧ u.link.refused = s.link.refused := by
  obtain ⟨k, hk, hclock⟩ := State.clock_write hopen a v
  rw [exec_whole hopen hf, hbytes, hclock, h, State.linked_updLink, State.linked_finish]
  exact ⟨_, rfl, rfl, hk⟩

theorem exec_write_refused {i : Instr} {a : Byte} {v : Word32} (hf : frameOf i = some (whole 6))
    (hbytes : bytesOfCommand i = writeFrame a v) (h : ∀ k, (s.linked k).writeRegister a v = (s.linked k).refuse) :
    ∃ u, exec i s = .next u ∧ u = { s with link := u.link, out := moved none none } ∧ u.link.refused = true := by
  obtain ⟨k, -, hclock⟩ := State.clock_write hopen a v
  rw [exec_whole hopen hf, hbytes, hclock, h, State.linked_refuse, State.linked_updLink, State.linked_finish]
  exact ⟨_, rfl, rfl, rfl⟩

end

/-! What each register makes of a write. -/

theorem decodeRegister_registerAddress (r : Reg) : decodeRegister (registerAddress r) = some r :=
  (codesAndAddressesDecode.2.1 _ r).mpr rfl

theorem State.linked_mayEnable (s : State) (k : Link) (w : WindowIx) : (s.linked k).mayEnable w = s.mayEnable w := rfl

theorem State.linked_updWindow (s : State) (k : Link) (w : WindowIx) (f : Window → Window) :
    (s.linked k).updWindow w f = (s.updWindow w f).linked k := rfl

section

variable {s : State} {w : WindowIx} {v : Word32}

theorem State.writeRegister_base : s.writeRegister (registerAddress (.base w)) v = s.writeBase w v := by
  rw [State.writeRegister, decodeRegister_registerAddress]

theorem State.writeRegister_shape : s.writeRegister (registerAddress (.shape w)) v = s.writeShape w v := by
  rw [State.writeRegister, decodeRegister_registerAddress]

theorem State.writeRegister_limits : s.writeRegister (registerAddress (.limits w)) v = s.writeLimits w v := by
  rw [State.writeRegister, decodeRegister_registerAddress]

theorem State.writeRegister_enable : s.writeRegister (registerAddress (.enable w)) v = s.writeEnable w v := by
  rw [State.writeRegister, decodeRegister_registerAddress]

theorem State.writeRegister_control : s.writeRegister (registerAddress .control) v = s.writeControl v := by
  rw [State.writeRegister, decodeRegister_registerAddress]

end

/-- The low bits are zero exactly when the value is a multiple of 4 KiB. -/
theorem extractLsb'_eq_zero_iff (v : Word32) : v.extractLsb' 0 12 = 0#12 ↔ 2 ^ 12 ∣ v.toNat := by
  rw [← BitVec.toNat_inj, BitVec.extractLsb'_toNat, Nat.dvd_iff_mod_eq_zero]
  simp

/-- The fields of a SHAPE write read back as the bits that hold a field. -/
theorem shapeValue_of_fields (r : Window) (v : Word32) :
    Window.shapeValue { r with
      sizeCode := v.extractLsb' 0 5, granuleCode := v.extractLsb' 8 2, queuedAllowed := v.getLsbD 12, autoGate := v.getLsbD 13
      decay := v.extractLsb' 16 2 } = v &&& 0x0003331F#32 := by
  refine BitVec.eq_of_getLsbD_eq fun i hi => ?_
  simp only [Window.shapeValue, BitVec.getLsbD_append, BitVec.getLsbD_and, BitVec.getLsbD_extractLsb']
  interval_cases i <;> simp

theorem limitsValue_of_fields (r : Window) (v : Word32) :
    Window.limitsValue { r with tenure := v.extractLsb' 16 8, hy := v.extractLsb' 8 5, th := v.extractLsb' 0 6 } =
      v &&& 0x00FF1F3F#32 := by
  refine BitVec.eq_of_getLsbD_eq fun i hi => ?_
  simp only [Window.limitsValue, BitVec.getLsbD_append, BitVec.getLsbD_and, BitVec.getLsbD_extractLsb']
  interval_cases i <;> simp

/-- A write that is taken for fields of one window. -/
theorem exec_write_field {s : State} (hopen : linkOpen s) {i : Instr} {a : Byte} {v : Word32} {w : WindowIx}
    {f : Window → Window} (hf : frameOf i = some (whole 6)) (hbytes : bytesOfCommand i = writeFrame a v)
    (h : ∀ k, (s.linked k).writeRegister a v = (s.updWindow w f).linked k) :
    ∃ u, exec i s = .next u ∧ u = { s with windows := u.windows, link := u.link, out := moved none none } ∧
      u.link.refused = s.link.refused ∧ ∀ i, u.window i = if i = w then f (s.window i) else s.window i := by
  obtain ⟨u, hu, hstate, hrefused⟩ := exec_write_taken hopen hf hbytes h
  refine ⟨u, hu, ?_, hrefused, fun i => ?_⟩
  · rw [hstate]; rfl
  · have hwindow : u.window i = (s.updWindow w f).window i := by rw [hstate]; rfl
    rw [hwindow, State.window_updWindow]

/-- Settles O42: a write of a window's field is judged by the enable bit and the value alone. -/
theorem windowFieldsWritten : Obligations.WindowFieldsWritten := by
  intro v w s hopen
  refine ⟨fun hoff hv => ?_, fun hoff hv => ?_, fun hoff hv => ?_, fun a ha => ?_⟩
  · obtain ⟨u, hu, hstate, hrefused, hwindow⟩ := exec_write_field hopen (w := w) (v := v)
      (i := .writeRegister (registerAddress (.base w)) v (whole 6)) (f := fun r => { r with base := v }) rfl rfl fun k => by
        rw [State.writeRegister_base, State.writeBase, if_neg (by simp [hoff, (extractLsb'_eq_zero_iff v).mpr hv])]
        rfl
    exact ⟨u, hu, hstate, hrefused, hwindow⟩
  · obtain ⟨u, hu, hstate, hrefused, hwindow⟩ := exec_write_field hopen (w := w) (v := v)
      (i := .writeRegister (registerAddress (.shape w)) v (whole 6))
      (f := fun r => { r with
        sizeCode := v.extractLsb' 0 5, granuleCode := v.extractLsb' 8 2, queuedAllowed := v.getLsbD 12
        autoGate := v.getLsbD 13, decay := v.extractLsb' 16 2 }) rfl rfl fun k => by
        rw [State.writeRegister_shape, State.writeShape, 
          if_neg (by rw [State.linked_window, hoff, Bool.false_or, decide_eq_true_eq]; omega)]
        rfl
    refine ⟨u, hu, hstate, hrefused, ?_, hwindow⟩
    rw [State.registerValue, hwindow w, if_pos rfl, shapeValue_of_fields]
  · obtain ⟨u, hu, hstate, hrefused, hwindow⟩ := exec_write_field hopen (w := w) (v := v)
      (i := .writeRegister (registerAddress (.limits w)) v (whole 6))
      (f := fun r => { r with tenure := v.extractLsb' 16 8, hy := v.extractLsb' 8 5, th := v.extractLsb' 0 6 }) rfl rfl
      fun k => by
        rw [State.writeRegister_limits, State.writeLimits, if_neg (by simp [hoff, hv])]
        rfl
    refine ⟨u, hu, hstate, hrefused, ?_, hwindow⟩
    rw [State.registerValue, hwindow w, if_pos rfl, limitsValue_of_fields]
  · refine exec_write_refused hopen rfl rfl fun k => ?_
    obtain ⟨hon, rfl | rfl | rfl⟩ | ⟨rfl, hv⟩ | ⟨rfl, hv⟩ | ⟨rfl, hv⟩ | rfl | ha := ha
    · rw [State.writeRegister_base, State.writeBase, if_pos (by simp [hon])]
    · rw [State.writeRegister_shape, State.writeShape, if_pos (by simp [hon])]
    · rw [State.writeRegister_limits, State.writeLimits, if_pos (by simp [hon])]
    · rw [State.writeRegister_base, State.writeBase, if_pos (by simp [mt (extractLsb'_eq_zero_iff v).mp hv])]
    · rw [State.writeRegister_shape, State.writeShape, if_pos (by rw [decide_eq_true hv, Bool.or_true])]
    · rw [State.writeRegister_limits, State.writeLimits, if_pos (by simp [hv])]
    · rfl
    · rw [State.writeRegister, ha]

/-- Two ranges share a byte exactly when each begins before the other ends. -/
theorem Window.overlaps_iff (r q : Window) : r.overlaps q = true ↔ shareByte r q := by
  have hr : 0 < r.bytes := by unfold Window.bytes; positivity
  have hq : 0 < q.bytes := by unfold Window.bytes; positivity
  rw [Window.overlaps, Bool.and_eq_true, decide_eq_true_eq, decide_eq_true_eq]
  constructor
  · rintro ⟨h1, h2⟩
    exact ⟨max r.base.toNat q.base.toNat, by omega, by omega⟩
  · rintro ⟨b, h1, h2⟩
    omega

/-- The checks of R9, as the model makes them. -/
theorem State.mayEnable_iff (s : State) (w : WindowIx) : s.mayEnable w = true ↔ enableChecks s w := by
  have halign : (s.window w).alignedBase = true ↔ (s.window w).bytes ∣ (s.window w).base.toNat := by
    rw [Window.alignedBase, decide_eq_true_eq, Nat.dvd_iff_mod_eq_zero]
  have hhysteresis : (s.window w).hysteresisOk = true ↔
      (s.window w).hy.toNat = 0 ∨ ¬ 2 * (s.window w).th.toNat ≤ (s.window w).hy.toNat := by
    rw [Window.hysteresisOk, Bool.or_eq_true, decide_eq_true_eq, decide_eq_true_eq, not_le]
  have hoverlap : s.overlapsOther w = false ↔
      ∀ i, i ≠ w → (s.window i).enable = true → ¬ shareByte (s.window i) (s.window w) := by
    simp [State.overlapsOther, windowIxs, Window.overlaps_iff]
  rw [State.mayEnable, Bool.and_eq_true, Bool.and_eq_true, halign, hhysteresis, Bool.not_eq_true', hoverlap, and_assoc]
  rfl

/-- The last bit of an ENABLE write, whatever the upper ones (R146). -/
theorem enableBit (upper : BitVec 31) (b : Bool) : (upper ++ BitVec.ofBool b).getLsbD 0 = b := by
  simp only [BitVec.getLsbD_append]
  simp

/-- Settles O44: bit 0 set, the write enables the window, changes nothing, or is refused. -/
theorem enableSetChecked : Obligations.EnableSetChecked := by
  intro w upper s hopen
  have hbit : (upper ++ 1#1).getLsbD 0 = true := enableBit upper true
  cases hon : (s.window w).enable with
  | true =>
    obtain ⟨u, hu, hstate, hrefused⟩ := exec_write_taken hopen (i := .enableSet w upper (whole 6)) (t := s) rfl rfl fun k => by
      rw [State.writeRegister_enable, State.writeEnable, if_pos hbit, State.linked_window, if_pos hon]
    refine ⟨u, hu, ?_, fun _ => ⟨?_, hrefused⟩, nofun, nofun⟩
    · rw [hstate]
    · rw [hstate]
  | false =>
    have hoff : ¬ (s.window w).enable = true := by simp [hon]
    by_cases hmay : s.mayEnable w = true
    · obtain ⟨u, hu, hstate, hrefused, hwindow⟩ := exec_write_field hopen (w := w)
        (i := .enableSet w upper (whole 6)) (f := fun r => { r with enable := true }) rfl rfl fun k => by
          rw [State.writeRegister_enable, State.writeEnable, if_pos hbit, State.linked_window, if_neg hoff, State.linked_mayEnable,
            if_pos hmay]
          rfl
      exact ⟨u, hu, hstate, nofun, fun _ _ => ⟨hrefused, hwindow⟩,
        fun _ h => absurd ((s.mayEnable_iff w).mp hmay) h⟩
    · obtain ⟨u, hu, hstate, hrefused⟩ := exec_write_refused hopen (i := .enableSet w upper (whole 6)) rfl rfl fun k => by
        rw [State.writeRegister_enable, State.writeEnable, if_pos hbit, State.linked_window, if_neg hoff, State.linked_mayEnable,
            if_neg hmay]
      refine ⟨u, hu, ?_, nofun, fun _ h => absurd ((s.mayEnable_iff w).mpr h) hmay, fun _ _ => ⟨?_, hrefused⟩⟩
      · rw [hstate]
      · rw [hstate]

end Sys2Proof.Machine
end

section
/-! SUPPORT. Frames cut short (O52) and RELEASE HOLDER (O50). -/

namespace Sys2Proof.Machine

open Sys2Proof.Safety Sys2Proof.Claim

/-! Frames cut short. -/

section

variable {s : State} (hopen : linkOpen s)
include hopen

/-- A frame whose bytes leave every record as it is. -/
theorem exec_short {i : Instr} {n : Nat} (hf : frameOf i = some (whole n))
    (hclock : ∃ k : Link, (s.linked (Link.opened s)).clockBytes (bytesOfCommand i) n = s.linked k ∧
      k.refused = s.link.refused) :
    ∃ u, exec i s = .next u ∧ u = { s with link := u.link, out := moved none none } ∧ u.link.refused = s.link.refused ∧
      u.link.phase = .idle := by
  obtain ⟨k, hk, hrefused⟩ := hclock
  rw [exec_whole hopen hf, hk, State.linked_finish]
  exact ⟨_, rfl, rfl, hrefused, rfl⟩

theorem State.clock_takeNotice_short {n : Nat} (hn : n < 9) :
    ∃ k : Link, (s.linked (Link.opened s)).clockBytes [commandCode .takeNotice] n = s.linked k ∧
      k.refused = s.link.refused := by
  cases n with
  | zero => exact ⟨Link.opened s, rfl, rfl⟩
  | succ n =>
    rw [State.clock_takeNotice hopen, State.clock_part hopen _ _ _ (by rw [s.noticeRecord_length]; omega)]
    exact ⟨_, rfl, rfl⟩

theorem State.clock_releaseHolder_short (i : Byte) {n : Nat} (hn : n < 2) :
    ∃ k : Link, (s.linked (Link.opened s)).clockBytes [commandCode .releaseHolder, i] n = s.linked k ∧
      k.refused = s.link.refused := by
  match n, hn with
  | 0, _ => exact ⟨Link.opened s, rfl, rfl⟩
  | 1, _ => exact ⟨Link.asked s .releaseHolder, State.clock_code hopen (c := .releaseHolder) (by decide) _ _, rfl⟩

/-- Only the discard mark follows the snapshot of READ STATUS. -/
theorem exec_readStatus_short {n : Nat} (hn : n < 6) :
    ∃ u, exec (.readStatus (whole n)) s = .next u ∧
      u = { s with
        discardMark := if 1 ≤ (whole n).bytes then false else s.discardMark, link := u.link, out := moved none none } ∧
      u.link.refused = s.link.refused ∧ u.link.phase = .idle := by
  rw [exec_whole hopen (c := .readStatus (whole n)) rfl]
  cases n with
  | zero => exact ⟨_, rfl, rfl, rfl, rfl⟩
  | succ n =>
    have hcleared : linkOpen { s with discardMark := false } := hopen
    rw [show bytesOfCommand (.readStatus (whole (n + 1))) = [commandCode .readStatus] from rfl, State.clock_readStatus hopen,
      State.clock_part hcleared _ _ _ (by simp [State.statusRecord]; omega), State.linked_finish]
    have hcut : (if 1 ≤ (whole (n + 1)).bytes then false else s.discardMark) = false := if_pos (Nat.le_add_left 1 n)
    rw [hcut]
    exact ⟨_, rfl, rfl, rfl, rfl⟩

end

/-- Settles O52: each command acts with its last byte, and no other byte acts. -/
theorem shortFramesChangeNothing : Obligations.ShortFramesChangeNothing := by
  intro c s hopen hc
  obtain ⟨a, v, n, hn, rfl⟩ | ⟨v, n, hn, rfl⟩ | ⟨w, x, n, hn, rfl⟩ | ⟨w, x, n, hn, rfl⟩ | ⟨n, hn, rfl⟩ | ⟨n, hn, rfl⟩ |
    ⟨n, hn, rfl⟩ | ⟨i, n, hn, rfl⟩ := hc
  · exact exec_short hopen rfl (State.clock_write_short hopen a v hn)
  · exact exec_short hopen rfl (State.clock_write_short hopen _ v hn)
  · exact exec_short hopen rfl (State.clock_write_short hopen _ _ hn)
  · exact exec_short hopen rfl (State.clock_write_short hopen _ _ hn)
  · exact exec_short hopen rfl (State.clock_takeNotice_short hopen hn)
  · exact exec_readStatus_short hopen hn
  · obtain rfl : n = 0 := by omega
    exact exec_short hopen rfl ⟨Link.opened s, rfl, rfl⟩
  · exact exec_short hopen rfl (State.clock_releaseHolder_short hopen i hn)

/-! RELEASE HOLDER. -/

section

variable (s : State) (k : Link)

theorem State.notify_linked (n : Notice) : (s.linked k).notify n = (s.notify n).linked k := by
  unfold State.notify
  split_ifs with h1 h2 h3 h4 h5 h6 <;> simp_all [State.linked]

theorem letGo_linked (m : Master) (e : EntryIx) : letGo m e (s.linked k) = (letGo m e s).linked k := by
  unfold letGo
  by_cases h : (s.ctx m).reservation = some (s.entry e).granule
  · have h' : ((s.linked k).ctx m).reservation = some ((s.linked k).entry e).granule := h
    simp only [h, h', decide_true, if_true]
    rfl
  · have h' : ¬ ((s.linked k).ctx m).reservation = some ((s.linked k).entry e).granule := h
    simp only [h, h', decide_false, Bool.false_eq_true, if_false]
    rfl

theorem State.updEntry_linked (e : EntryIx) (f : Entry → Entry) : (s.linked k).updEntry e f = (s.updEntry e f).linked k := rfl

theorem grantedTo_linked (m : Master) (rest : List Master) (e : EntryIx) :
    grantedTo m rest e (s.linked k) = (grantedTo m rest e s).linked k := rfl

theorem settled_linked (e : EntryIx) : settled e (s.linked k) = (settled e s).linked k := by
  have hcov : (s.linked k).covered (s.entry e).granule = s.covered (s.entry e).granule := rfl
  unfold settled
  rw [State.linked_entry]
  cases (s.entry e).queue with
  | nil => simp only [State.updEntry_linked, State.notify_linked, apply_ite (State.linked · k)]
  | cons m rest => simp only [hcov, grantedTo_linked, apply_ite (State.linked · k)]

end

section

variable {s : State} {k : Link}

theorem State.releaseHolder_of_holder {e : EntryIx} {m : Master} (hz : HazardMatches s) (hserv : (s.entry e).serving = true)
    (hh : (s.entry e).holder = some m) :
    (s.linked k).releaseHolder (BitVec.ofNat 8 e.val) = (settled e (letGo m e s)).linked k := by
  have he := e.isLt
  have hix : (BitVec.ofNat 8 e.val).toNat = e.val := Nat.mod_eq_of_lt (by omega)
  have hz' : HazardMatches (s.linked k) := hz
  simp only [State.releaseHolder, hix, he, dif_pos, State.linked_entry, hserv, hh, Option.isSome_some, Bool.and_self, if_true]
  rw [State.releaseEntry_eq hz' hh hserv, letGo_linked, settled_linked]

theorem State.releaseHolder_of_none {i : Byte}
    (h : ∀ e : EntryIx, e.val = i.toNat → (s.entry e).serving = false ∨ (s.entry e).holder = none) :
    (s.linked k).releaseHolder i = (s.linked k).refuse := by
  unfold State.releaseHolder
  split_ifs with hi hholds
  · obtain ⟨hserv, hholder⟩ := Bool.and_eq_true_iff.mp hholds
    obtain hnot | hnone := h ⟨i.toNat, hi⟩ rfl
    · rw [State.linked_entry, hnot] at hserv; cases hserv
    · rw [State.linked_entry, hnone] at hholder; cases hholder
  · rfl
  · rfl

/-- The index byte of RELEASE HOLDER acts. -/
theorem exec_releaseHolder (hopen : linkOpen s) (i : Byte) :
    exec (.releaseHolder i (whole 2)) s =
      .next ((((s.linked (Link.told s .releaseHolder)).releaseHolder i).updLink fun k =>
        { k with phase := .ignore }).mcsRise.took) := by
  rw [exec_whole hopen rfl, show bytesOfCommand (.releaseHolder i (whole 2)) = [commandCode .releaseHolder, i] from rfl,
    State.clock_code hopen (by decide), State.clock_argument hopen]
  rfl

end

/-- Settles O50: the holder of the entry named is let go and its entry settled, or the command is refused. -/
theorem releaseHolderGrantsNext : Obligations.ReleaseHolderGrantsNext := by
  intro s hopen
  refine ⟨fun e m hz hserv hh => ?_, fun i hi => ?_⟩
  · rw [exec_releaseHolder hopen, State.releaseHolder_of_holder hz hserv hh, State.linked_updLink, State.linked_finish]
    exact ⟨_, rfl, rfl, rfl⟩
  · rw [exec_releaseHolder hopen, State.releaseHolder_of_none hi, State.linked_refuse, State.linked_updLink,
      State.linked_finish]
    exact ⟨_, rfl, rfl, rfl⟩

end Sys2Proof.Machine
end

section
/-! SUPPORT. Dissolutions by register writes and by CLEAR ALL: CONTROL (O43), ENABLE cleared (O45), CLEAR ALL (O49). -/

namespace Sys2Proof.Machine

open Sys2Proof.Safety Sys2Proof.Claim

/-! The model's dissolution is the effect of the window disable events. -/

/-- Only the contexts, the entries and the lists of reads changed. -/
def State.onlyDissolved (s u : State) : Prop := u = { s with
  contexts := u.contexts, contention := u.contention, flight := u.flight, hazard := u.hazard, released := u.released }

section

variable (s : State) (p : WindowIx → Bool)

theorem State.keptParts_eq (c : Context) : s.keptParts p c = partsOutside s p c := rfl

theorem State.keptMarks_eq (f : Flight) : s.keptMarks p f = marksOutside s p f := by
  unfold State.keptMarks marksOutside
  cases f.kind <;> rfl

theorem State.linked_dissolve (k : Link) : (s.linked k).dissolve p = (s.dissolve p).linked k := rfl

/-- A dissolution leaves everything but the contexts, the entries and the lists of reads. -/
theorem State.onlyDissolved_dissolve : s.onlyDissolved (s.dissolve p) := by
  have hkeep : ∀ u : State, u.windows = s.windows → u.mon = s.mon → u.sampleCode = s.sampleCode → u.mask = s.mask →
      u.nomon = s.nomon → u.replies = s.replies → u.notices = s.notices → u.overflow = s.overflow →
      u.discardMark = s.discardMark → u.link = s.link → u.sampleTimer = s.sampleTimer → u.sampleLength = s.sampleLength →
      u.atExpiry = s.atExpiry → u.unitCounter = s.unitCounter → u.refclkRunning = s.refclkRunning →
      u.resetLow = s.resetLow → u.inReset = s.inReset → u.out = s.out → u.draws = s.draws → u.pending = s.pending →
      s.onlyDissolved u := fun u => by
    cases s; cases u
    simp_all [State.onlyDissolved]
  apply hkeep <;> simp

end

theorem dissolved_dissolve {s : State} (hs : Agree s) (p : WindowIx → Bool) : dissolved s (s.dissolve p) p := by
  refine ⟨fun m => s.dissolve_ctx p m, fun e => s.dissolve_entry p e, ?_, ?_, s.dissolvedReads p, ?_, hs.dissolvedReads_perm p⟩
  · simp only [State.dissolve_hazard, State.dissolve_ctx]
    rfl
  · rw [State.dissolve_flight]
    exact List.map_congr_left fun f _ => s.keptMarks_eq p f
  · rw [State.dissolve_released]
    rfl

/-- The effect speaks of the contexts, the entries and the lists of reads only. -/
theorem dissolved_congr {s u v : State} {p : WindowIx → Bool} (h : dissolved s u p) (hctx : v.contexts = u.contexts)
    (hentry : v.contention = u.contention) (hflight : v.flight = u.flight) (hhazard : v.hazard = u.hazard)
    (hreleased : v.released = u.released) : dissolved s v p := by
  have hc : ∀ m, v.ctx m = u.ctx m := fun m => by rw [State.ctx, hctx]; rfl
  have he : ∀ e, v.entry e = u.entry e := fun e => by rw [State.entry, hentry]; rfl
  unfold dissolved at *
  simp only [hc, he, hflight, hhazard, hreleased]
  exact h

/-! ENABLE cleared. -/

/-- ENABLE of a window is cleared, and what it held is dissolved when it was ACTIVE (R10, R13). -/
def State.disabled (s : State) (w : WindowIx) : State :=
  (if s.active w then s.dissolve fun i => decide (i = w) else s).updWindow w fun r => { r with enable := false }

theorem State.writeEnable_clear {s : State} {w : WindowIx} {v : Word32} (h : v.getLsbD 0 = false) :
    s.writeEnable w v = s.disabled w := by
  unfold State.writeEnable
  rw [h, if_neg (by simp)]
  rfl

theorem State.linked_disabled (s : State) (k : Link) (w : WindowIx) : (s.linked k).disabled w = (s.disabled w).linked k := by
  unfold State.disabled
  rw [State.linked_active]
  split_ifs
  · rfl
  · rfl

theorem State.disabled_window (s : State) (w i : WindowIx) :
    (s.disabled w).window i = if i = w then { s.window i with enable := false } else s.window i := by
  unfold State.disabled
  rw [State.window_updWindow]
  split_ifs <;> simp

theorem State.disabled_of_active {s : State} {w : WindowIx} (h : s.active w = true) :
    s.disabled w = (s.dissolve fun i => decide (i = w)).updWindow w fun r => { r with enable := false } := by
  rw [State.disabled, if_pos h]

theorem State.disabled_of_passive {s : State} {w : WindowIx} (h : s.active w = false) :
    s.disabled w = s.updWindow w fun r => { r with enable := false } := by
  rw [State.disabled, if_neg (by simp [h])]

theorem State.disabled_frame (s : State) (w : WindowIx) : s.disabled w = { s with
    windows := (s.disabled w).windows, contexts := (s.disabled w).contexts, contention := (s.disabled w).contention
    flight := (s.disabled w).flight, hazard := (s.disabled w).hazard, released := (s.disabled w).released } := by
  have hkeep : ∀ u : State, s.onlyDissolved u → ∀ f, u.updWindow w f = { s with
      windows := (u.updWindow w f).windows, contexts := (u.updWindow w f).contexts
      contention := (u.updWindow w f).contention, flight := (u.updWindow w f).flight, hazard := (u.updWindow w f).hazard
      released := (u.updWindow w f).released } := fun u hu f => by
    rw [hu]; rfl
  unfold State.disabled
  refine hkeep _ ?_ _
  split_ifs
  · exact s.onlyDissolved_dissolve _
  · rfl

/-- Settles O45: an ACTIVE window is dissolved, and none is refused. -/
theorem enableClearDissolves : Obligations.EnableClearDissolves := by
  intro w upper s hopen
  have hbit : (upper ++ 0#1).getLsbD 0 = false := enableBit upper false
  obtain ⟨u, hu, hstate, hrefused⟩ := exec_write_taken hopen (i := .enableClear w upper (whole 6)) (t := s.disabled w) rfl rfl
    fun k => by rw [State.writeRegister_enable, State.writeEnable_clear hbit, State.linked_disabled]
  refine ⟨u, hu, ?_, hrefused, fun i => ?_, fun hpassive => ?_, fun hcoherent hactive => ?_⟩
  · have hframe := s.disabled_frame w
    generalize s.disabled w = d at hstate hframe
    rw [hstate, hframe]
  · rw [← State.disabled_window, hstate]; rfl
  · rw [State.disabled_of_passive hpassive] at hstate
    rw [hstate]
    exact ⟨rfl, rfl, rfl, rfl, rfl⟩
  · have hdissolved := dissolved_dissolve ((coherent_iff s).mp hcoherent).1 fun i => decide (i = w)
    rw [State.disabled_of_active hactive] at hstate
    generalize (s.dissolve fun i => decide (i = w)) = d at hstate hdissolved
    refine dissolved_congr hdissolved ?_ ?_ ?_ ?_ ?_ <;> rw [hstate] <;> rfl

/-! CONTROL. -/

theorem State.linked_writeControl (s : State) (k : Link) (v : Word32) :
    (s.linked k).writeControl v = (s.writeControl v).linked k := by
  rw [State.writeControl_eq, State.writeControl_eq]
  have hmon : ((s.linked k).mon && !v.getLsbD 0) = (s.mon && !v.getLsbD 0) := rfl
  rw [hmon]
  split_ifs
  · rfl
  · rfl

/-- The fields of a CONTROL write read back as the bits that hold a field. -/
theorem controlValue_of_fields {u : State} {v : Word32} (hmon : u.mon = v.getLsbD 0) (hcode : u.sampleCode = v.extractLsb' 4 2)
    (hmask : u.mask = v.extractLsb' 16 6) : u.controlValue = v &&& 0x003F0031#32 := by
  refine BitVec.eq_of_getLsbD_eq fun i hi => ?_
  simp only [State.controlValue, hmon, hcode, hmask, BitVec.getLsbD_append, BitVec.getLsbD_and, BitVec.getLsbD_extractLsb']
  interval_cases i <;> simp

theorem exec_writeControl {s : State} (hopen : linkOpen s) (v : Word32) :
    ∃ u, exec (.writeControl v (whole 6)) s = .next u ∧ u = { s.writeControl v with link := u.link, out := moved none none } ∧
      u.link.refused = s.link.refused :=
  exec_write_taken hopen (i := .writeControl v (whole 6)) rfl rfl fun k => by
    rw [State.writeRegister_control, State.linked_writeControl]

theorem State.writeControl_frame (s : State) (v : Word32) : s.writeControl v = { s with
    mon := v.getLsbD 0, sampleCode := v.extractLsb' 4 2, mask := v.extractLsb' 16 6
    sampleLength := if s.atExpiry then 256 * 4 ^ (v.extractLsb' 4 2).toNat else s.sampleLength
    contexts := (s.writeControl v).contexts, contention := (s.writeControl v).contention, flight := (s.writeControl v).flight
    hazard := (s.writeControl v).hazard, released := (s.writeControl v).released } := by
  have hkeep : ∀ u : State, s.onlyDissolved u → u.setControl v = { s with
      mon := v.getLsbD 0, sampleCode := v.extractLsb' 4 2, mask := v.extractLsb' 16 6
      sampleLength := if s.atExpiry then 256 * 4 ^ (v.extractLsb' 4 2).toNat else s.sampleLength
      contexts := (u.setControl v).contexts, contention := (u.setControl v).contention, flight := (u.setControl v).flight
      hazard := (u.setControl v).hazard, released := (u.setControl v).released } := fun u hu => by
    rw [hu]; rfl
  rw [State.writeControl_eq]
  refine hkeep _ ?_
  split_ifs
  · exact s.onlyDissolved_dissolve _
  · rfl

/-- A sample period that begins at an expiry commanded now. -/
theorem exec_samplePeriodExpiry_timebase {s : State} (hopen : linkOpen s) :
    ∃ x, exec .samplePeriodExpiry s = .next x ∧ linkOpen x ∧ x.atExpiry = true ∧ x.sampleTimer = 0 ∧
      x.sampleLength = Config.samplePeriod s.sampleCode := by
  obtain ⟨htimer, hlength, hat⟩ := s.quiet.expire_timebase
  refine ⟨_, exec_samplePeriodExpiry (s.live_iff.mpr hopen), ⟨?_, ?_⟩, ?_, ?_, ?_⟩
  · simpa using hopen.1
  · simpa using hopen.2
  · simpa using hat
  · simpa using htimer
  · simpa using hlength

/-- What a complete CONTROL write leaves and sets. -/
theorem writeControl_fields {s u : State} {v : Word32} (h : u = { s.writeControl v with link := u.link, out := moved none none }) :
    u = { s with
      mon := v.getLsbD 0, sampleCode := v.extractLsb' 4 2, mask := v.extractLsb' 16 6
      sampleLength := if s.atExpiry then 256 * 4 ^ (v.extractLsb' 4 2).toNat else s.sampleLength
      contexts := u.contexts, contention := u.contention, flight := u.flight, hazard := u.hazard, released := u.released
      link := u.link, out := moved none none } := by
  have hframe := s.writeControl_frame v
  generalize s.writeControl v = d at h hframe
  rw [h, hframe]

/-- Settles O43: CONTROL takes its fields together, and MON turned off dissolves the ACTIVE windows. -/
theorem controlWritten : Obligations.ControlWritten := by
  intro v s hopen
  obtain ⟨u, hu, hstate, hrefused⟩ := exec_writeControl hopen v
  have hfields := writeControl_fields hstate
  have hmon : u.mon = v.getLsbD 0 := by rw [hfields]
  have hcode : u.sampleCode = v.extractLsb' 4 2 := by rw [hfields]
  have hmask : u.mask = v.extractLsb' 16 6 := by rw [hfields]
  have hstill : linkOpen u := by rw [hfields]; exact hopen
  refine ⟨u, hu, hfields, hrefused, controlValue_of_fields hmon hcode hmask, fun hkept => ?_, fun hcoherent hon hoff => ?_, ?_⟩
  · have hnone : ¬ (s.mon && !v.getLsbD 0) = true := by
      obtain h | h := hkept <;> simp [h]
    rw [State.writeControl_eq, if_neg hnone] at hstate
    rw [hstate]
    exact ⟨rfl, rfl, rfl, rfl, rfl⟩
  · have hdissolved := dissolved_dissolve ((coherent_iff s).mp hcoherent).1 s.active
    rw [State.writeControl_eq, if_pos (by rw [hon, hoff]; rfl)] at hstate
    generalize s.dissolve s.active = d at hstate hdissolved
    refine dissolved_congr hdissolved ?_ ?_ ?_ ?_ ?_ <;> rw [hstate] <;> rfl
  · obtain ⟨x, hx, hxopen, hxat, hxtimer, -⟩ := exec_samplePeriodExpiry_timebase hopen
    obtain ⟨y, hy, hystate, -⟩ := exec_writeControl hxopen v
    obtain ⟨z, hz, -, -, hztimer, hzlength⟩ := exec_samplePeriodExpiry_timebase hstill
    have hyfields := writeControl_fields hystate
    refine ⟨x, y, z, hx, hy, hz, ?_, ?_⟩
    · rw [hzlength, hcode, hyfields, hxat]
      rfl
    · rw [hztimer, hyfields, hxtimer]

/-! CLEAR ALL. -/

section

variable {s : State}

theorem State.linked_clearAll (k : Link) : (s.linked k).clearAll = s.clearAll.linked k := rfl

/-- CLEAR ALL acts at its command byte. -/
theorem exec_clearAll (hopen : linkOpen s) : ∃ u, exec (.clearAll (whole 1)) s = .next u ∧
    u = { s.clearAll with link := u.link, out := moved none none } ∧ u.link.refused = s.link.refused := by
  have hbyte : (s.linked (Link.commanded s)).commandByte (commandCode .clearAll) =
      s.clearAll.linked { Link.commanded s with command := some .clearAll, phase := .ignore } := rfl
  rw [exec_whole hopen rfl, show bytesOfCommand (.clearAll (whole 1)) = [commandCode .clearAll] from rfl,
    State.clock_command hopen, hbyte]
  generalize s.clearAll = c
  exact ⟨_, rfl, rfl, rfl⟩

theorem State.clearAll_frame : s.clearAll = { s with
    contexts := s.clearAll.contexts, contention := s.clearAll.contention, flight := s.clearAll.flight, hazard := s.clearAll.hazard
    released := s.clearAll.released, notices := [], overflow := false } := by
  have hkeep : ∀ u : State, s.onlyDissolved u → ({ u with notices := [], overflow := false } : State) = { s with
      contexts := u.contexts, contention := u.contention, flight := u.flight, hazard := u.hazard, released := u.released
      notices := [], overflow := false } := fun u hu => by
    rw [hu]
  exact hkeep _ (s.onlyDissolved_dissolve _)

end

/-- Settles O49: CLEAR ALL dissolves every window, and empties the notice queue. -/
theorem clearAllEmptiesOwners : Obligations.ClearAllEmptiesOwners := by
  intro s hopen hcoherent
  obtain ⟨u, hu, hstate, hrefused⟩ := exec_clearAll hopen
  have hframe := s.clearAll_frame
  have hdissolved := dissolved_dissolve ((coherent_iff s).mp hcoherent).1 fun _ => true
  have hlists : u.contexts = (s.dissolve fun _ => true).contexts ∧ u.contention = (s.dissolve fun _ => true).contention ∧
      u.flight = (s.dissolve fun _ => true).flight ∧ u.hazard = (s.dissolve fun _ => true).hazard ∧
      u.released = (s.dissolve fun _ => true).released := by
    unfold State.clearAll at hstate
    generalize (s.dissolve fun _ => true) = d at hstate
    rw [hstate]
    exact ⟨rfl, rfl, rfl, rfl, rfl⟩
  obtain ⟨hcontexts, hcontention, hflight, hhazard, hreleased⟩ := hlists
  obtain ⟨hctx, hentry, hhazardNow, hflightNow, more, hreleasedNow, hmore⟩ :=
    dissolved_congr hdissolved hcontexts hcontention hflight hhazard hreleased
  have hempty : ∀ m, u.ctx m = { reservation := none, parked := none, holdership := none } := fun m => by
    rw [hctx]; simp [partsOutside]
  have hnoHazard : u.hazard = [] := by rw [hhazardNow]; simp [hempty]
  have hstate' : u = { s with
      contexts := u.contexts, contention := u.contention, flight := u.flight, hazard := u.hazard, released := u.released
      notices := [], overflow := false, link := u.link, out := moved none none } := by
    generalize s.clearAll = c at hstate hframe
    rw [hstate, hframe]
  refine ⟨u, hu, by rw [hnoHazard] at hstate'; exact hstate', hrefused, ?_, hempty, fun e => ?_, hflightNow, more, ?_, hmore⟩
  · rw [hstate']; rfl
  · rw [hentry]; rfl
  · rw [hreleasedNow]; rfl

end Sys2Proof.Machine
end

section
/-! SUPPORT. Classification and granule ranges (O23). -/

namespace Sys2Proof.Machine

open Sys2Proof.Safety Sys2Proof.Claim

/-! Multiples of one number. -/

theorem add_le_of_dvd {d a b : Nat} (ha : d ∣ a) (hb : d ∣ b) (h : a < b) : a + d ≤ b :=
  Nat.le_of_lt_add_of_dvd (Nat.add_lt_add_right h d) (dvd_add ha dvd_rfl) hb

theorem le_add_iff_of_dvd {d a b n : Nat} (ha : d ∣ a) (hb : d ∣ b) (hn : n < d) : b ≤ a + n ↔ b ≤ a :=
  ⟨fun h => Nat.le_of_lt_add_of_dvd (by omega) hb ha, fun h => by omega⟩

theorem add_lt_iff_of_dvd {d a b n : Nat} (ha : d ∣ a) (hb : d ∣ b) (hn : n < d) : a + n < b ↔ a < b :=
  ⟨fun h => by omega, fun h => by have := add_le_of_dvd ha hb h; omega⟩

/-- A whole block of `d` bytes lies in one block of a multiple of `d`. -/
theorem add_div_of_dvd {d a g n : Nat} (ha : d ∣ a) (hg : d ∣ g) (hn : n < d) : (a + n) / g = a / g := by
  obtain ⟨x, rfl⟩ := ha
  obtain ⟨y, rfl⟩ := hg
  have hd : 0 < d := by omega
  rw [← Nat.div_div_eq_div_mul, ← Nat.div_div_eq_div_mul, Nat.mul_add_div hd, Nat.div_eq_of_lt hn, Nat.mul_div_cancel_left x hd]
  simp

/-- Some byte of a block lies in a granule exactly when the granule lies between those of the block's ends. -/
theorem exists_div_eq_iff {a d g k : Nat} (hd : 0 < d) (hg : 0 < g) :
    (∃ n, n < d ∧ (a + n) / g = k) ↔ a / g ≤ k ∧ k ≤ (a + (d - 1)) / g := by
  constructor
  · rintro ⟨n, hn, rfl⟩
    exact ⟨Nat.div_le_div_right (by omega), Nat.div_le_div_right (by omega)⟩
  · rintro ⟨hlow, hhigh⟩
    obtain heq | hlt := hlow.eq_or_lt
    · exact ⟨0, hd, heq⟩
    · have hstart : a < k * g := (Nat.div_lt_iff_lt_mul hg).mp hlt
      have hend : k * g ≤ a + (d - 1) := (Nat.le_div_iff_mul_le hg).mp hhigh
      exact ⟨k * g - a, by omega, by rw [Nat.add_sub_cancel' hstart.le, Nat.mul_div_cancel k hg]⟩

/-! Granules. -/

theorem granuleBase_toNat (g : Nat) (a : Addr) : (granuleBase g a).toNat = a.toNat / g * g := by
  have hle := Nat.div_mul_le_self a.toNat g
  have ha := a.isLt
  rw [granuleBase, BitVec.toNat_ofNat, Nat.mod_eq_of_lt (by omega)]

theorem granuleBase_eq_iff {g : Nat} (hg : 0 < g) (a b : Addr) :
    granuleBase g a = granuleBase g b ↔ a.toNat / g = b.toNat / g := by
  rw [← BitVec.toNat_inj, granuleBase_toNat, granuleBase_toNat, Nat.mul_left_inj hg.ne']

theorem granuleOf_eq_iff (s : State) (w : WindowIx) (a b : Addr) :
    s.granuleOf w a = s.granuleOf w b ↔ a.toNat / s.granuleBytes w = b.toNat / s.granuleBytes w := by
  have hg : 0 < s.granuleBytes w := by unfold State.granuleBytes Window.granuleBytes; positivity
  rw [← granuleBase_eq_iff hg, State.granuleOf, State.granuleOf, Granule.mk.injEq]
  simp

/-- A range of granules includes a granule exactly when it stands between the range's ends. -/
theorem inRange_writeRange_iff (s : State) (w : WindowIx) (a b : Addr) (z : SizeCode) :
    s.inRange (s.writeRange w a z) (s.granuleOf w b) = true ↔
      a.toNat / s.granuleBytes w ≤ b.toNat / s.granuleBytes w ∧
        b.toNat / s.granuleBytes w ≤ (a + BitVec.ofNat 32 (2 ^ z.val - 1)).toNat / s.granuleBytes w := by
  have hg : 0 < s.granuleBytes w := by unfold State.granuleBytes Window.granuleBytes; positivity
  have hlt : ∀ x y : Nat, x * s.granuleBytes w < y * s.granuleBytes w + s.granuleBytes w ↔ x ≤ y := fun x y => by
    rw [← Nat.succ_mul, Nat.mul_lt_mul_right hg, Nat.lt_succ_iff]
  show GranuleRange.includes _ _ _ = true ↔ _
  rw [GranuleRange.includes, Bool.and_eq_true, decide_eq_true_eq, decide_eq_true_eq]
  simp only [State.writeRange, State.granuleOf, granuleBase_toNat, sizeBytes, hlt]
  exact and_comm

/-! The bytes of a request. -/

section

variable {a : Addr} {z : SizeCode} (ha : 2 ^ z.val ∣ a.toNat) {n : Nat} (hn : n < 2 ^ z.val)
include ha hn

/-- The bytes of an aligned request do not wrap around. -/
theorem byte_toNat : (a + BitVec.ofNat 32 n).toNat = a.toNat + n := by
  have hz := z.isLt
  have hword : 2 ^ z.val ∣ 2 ^ 32 := Nat.pow_dvd_pow 2 (by omega)
  have hend := add_le_of_dvd ha hword a.isLt
  rw [BitVec.toNat_add, BitVec.toNat_ofNat, Nat.mod_eq_of_lt (a := n) (by omega), Nat.mod_eq_of_lt (by omega)]

/-- A legal window covers every byte of an aligned request or none. -/
theorem covers_byte {r : Window} (hr : WindowLegal r) : r.covers (a + BitVec.ofNat 32 n) = r.covers a := by
  have hz := z.isLt
  have hpage : 2 ^ z.val ∣ 4096 := Nat.pow_dvd_pow (n := 12) 2 (by omega)
  have hbase : 2 ^ z.val ∣ r.base.toNat := hpage.trans (Nat.dvd_of_mod_eq_zero hr.2.1)
  have hbytes : 2 ^ z.val ∣ r.base.toNat + r.bytes := dvd_add hbase (hpage.mul_right _)
  simp only [Window.covers, byte_toNat ha hn, le_add_iff_of_dvd ha hbase hn, add_lt_iff_of_dvd ha hbytes hn]

/-- The bytes of a request of at most the granule size lie in one granule. -/
theorem granuleOf_byte (s : State) {w : WindowIx} (hle : 2 ^ z.val ≤ s.granuleBytes w) :
    s.granuleOf w (a + BitVec.ofNat 32 n) = s.granuleOf w a := by
  have hpow : s.granuleBytes w = 2 ^ (4 + (s.window w).granuleCode.toNat) := (pow_add 2 4 _).symm
  have hdvd : 2 ^ z.val ∣ s.granuleBytes w := by
    rw [hpow] at hle ⊢
    exact Nat.pow_dvd_pow 2 ((Nat.pow_le_pow_iff_right (by decide)).mp hle)
  rw [granuleOf_eq_iff, byte_toNat ha hn, add_div_of_dvd ha hdvd hn]

end

/-- Settles O23: windows begin and end at multiples of the request's size, and granules do when they are not smaller. -/
theorem requestLiesInOneWindow : Obligations.RequestLiesInOneWindow := by
  intro s a z htable ha _
  refine ⟨fun n hn => ?_, fun w hw => ⟨fun hle n hn => granuleOf_byte ha hn s hle, rfl, rfl, fun b => ?_⟩⟩
  · simp only [State.classify, covers_byte ha hn (htable.1 _)]
  · have hg : 0 < s.granuleBytes w := by unfold State.granuleBytes Window.granuleBytes; positivity
    have hd : 0 < 2 ^ z.val := by positivity
    rw [inRange_writeRange_iff, byte_toNat ha (by omega), ← exists_div_eq_iff hd hg]
    refine exists_congr fun n => and_congr_right fun hn => ?_
    rw [granuleOf_eq_iff, byte_toNat ha hn]

end Sys2Proof.Machine
end
